-- ==== Sys2Proof/Word.lean ====
section
/-!
DEFINITION. The words of the SQ4: bytes of the link, 16-bit output codes, 32-bit counters.
-/

namespace Sys2Proof

/-- A byte of the host link (spec 00_scope, Conventions). -/
abbrev Byte := BitVec 8

/-- A two-byte field of a frame. -/
abbrev Half := BitVec 16

/-- A four-byte field of a frame, or a 32-bit counter. -/
abbrev Word := BitVec 32

/-- A sample: an unsigned 16-bit output code (spec 00_scope, Samples). -/
abbrev Sample := BitVec 16

end Sys2Proof
end

