-- ==== Sys2Proof/Config.lean ====
section
/-!
DEFINITION. The capacities of the SQ4 (spec 00_scope, "Capacities and ranges") and the nominal durations
(spec 05, "Nominal durations"), in reference periods of REFCLK: 24 of them make 1 µs.
-/

namespace Sys2Proof.Config

/-- Pool blocks (R1). -/
def poolBlocks : Nat := 512
/-- Samples of one pool block (R1). -/
def blockSamples : Nat := 64
/-- Longest segment, in samples. -/
def maxLength : Nat := 8192
/-- Records of the segment map (R4). -/
def mapRecords : Nat := 96
/-- Marks of one segment (R5). -/
def maxMarks : Nat := 16
/-- Entries of one play queue (R27). -/
def queueDepth : Nat := 16
/-- Jobs of the job list (R103). -/
def maxJobs : Nat := 4
/-- Suspensions of one erase (R112). -/
def maxSuspensions : Nat := 8
/-- Completed saves of one slot (R95). -/
def saveLimit : Nat := 100000
/-- Characters of a label (R91). -/
def maxLabel : Nat := 12
/-- Steps of a plan record (R97). -/
def maxSteps : Nat := 24
/-- Pending entries of the Request Table (R164). -/
def maxEntries : Nat := 8
/-- Refusal records of the Request Table (R166). -/
def maxRefusals : Nat := 4
/-- Records of the Notice Queue (R178). -/
def maxNotices : Nat := 32
/-- Largest notice window (R191). -/
def maxWindow : Nat := 4
/-- Samples of one WRITE_SAMPLES (R18). -/
def maxWrite : Nat := 120
/-- Bytes of data in a reply body (R176). -/
def maxReplyData : Nat := 246

/-- Rest code and output code after every reset: mid-scale (R25). -/
def midScale : Sample := 32768
/-- Generator divider after every reset (R58). -/
def resetDivider : Nat := 24000
/-- Smallest divider of a generator or of the sampler (R62, R75). -/
def minDivider : Nat := 24
/-- Largest generator divider (R62). -/
def maxDivider : Nat := 16777216
/-- Sampler divider after every reset (R68). -/
def resetSampler : Nat := 240
/-- Largest confirm count (R75). -/
def maxConfirm : Nat := 8

/-- Reference periods of one microsecond (24 MHz). -/
def perMicrosecond : Nat := 24
/-- SAVE: 3 ms + 1.5 ms per started block. -/
def saveTime (blocks : Nat) : Nat := perMicrosecond * (3000 + 1500 * blocks)
/-- LOAD: 0.5 ms + 0.2 ms per block. -/
def loadTime (blocks : Nat) : Nat := perMicrosecond * (500 + 200 * blocks)
/-- ERASE: 60 ms. -/
def eraseTime : Nat := perMicrosecond * 60000
/-- SET_LOCK: 4 ms. -/
def setLockTime : Nat := perMicrosecond * 4000
/-- SAVE_PLAN: 8 ms. -/
def savePlanTime : Nat := perMicrosecond * 8000
/-- CLEAR_PLAN: 60 ms. -/
def clearPlanTime : Nat := perMicrosecond * 60000
/-- Receive gap timeout: 5 ms (R148). -/
def gapTime : Nat := perMicrosecond * 5000
/-- Notice retransmit timeout: 100 ms (R187). -/
def retransmitTime : Nat := perMicrosecond * 100000

/-- The baud rate that the straps BAUD1, BAUD0 select (R142). -/
def baud (straps : BitVec 2) : Nat :=
  match straps.toNat with
  | 0 => 115200
  | 1 => 460800
  | 2 => 921600
  | _ => 2000000

end Sys2Proof.Config
end

