-- ==== Sys2Proof/Syntax.lean ====
section
/-!
DEFINITION. The commands of the SQ4: one constructor of `Instr` per row of spec/opcode_table.json.

A request command is a request frame: its TAG and its body. The fields of a body stand here as the frame carries them
(bytes and little-endian numbers, spec 09 "Request catalogue", R174); whether a value is in its range is decided by the
block that owns the request.
-/

namespace Sys2Proof

/-- The body of a request after its code byte: the fields the catalogue gives, or the bytes of a body whose length is
not one the catalogue allows for the code (R162). -/
inductive Body (α : Type) where
  | fields (f : α)
  | malformed (bytes : List Byte)
  deriving DecidableEq, Repr

/-- The four-byte encoding of a mark (R174): position, the line-and-action byte, and fire. -/
structure RawMark where
  position : Half
  lineAction : Byte
  fire : Byte
  deriving DecidableEq, Repr

/-- CREATE_SEGMENT: id, length, marks (the mark count is the list's length). -/
structure CreateFields where
  id : Byte
  length : Half
  marks : List RawMark
  deriving DecidableEq, Repr

/-- WRITE_SAMPLES: id, offset, samples. -/
structure WriteFields where
  id : Byte
  offset : Half
  samples : List Sample
  deriving DecidableEq, Repr

/-- GET_SEGMENT: id, block index. -/
structure GetSegmentFields where
  id : Byte
  index : Byte
  deriving DecidableEq, Repr

/-- CONFIGURE_CHANNEL and the CONFIG step: channel, default generator, rest code. -/
structure ConfigFields where
  channel : Byte
  generator : Byte
  rest : Sample
  deriving DecidableEq, Repr

/-- ENQUEUE: channel, segment, repeat, start, until, generator, options. -/
structure EnqueueFields where
  channel : Byte
  segment : Byte
  repeats : Half
  start : Byte
  untilTrig : Byte
  generator : Byte
  options : Byte
  deriving DecidableEq, Repr

/-- STOP: channel mask, mode. -/
structure StopFields where
  mask : Byte
  mode : Byte
  deriving DecidableEq, Repr

/-- SET_RATE and the RATE step: generator, divider. -/
structure RateFields where
  generator : Byte
  divider : Word
  deriving DecidableEq, Repr

/-- SET_INPUTS and the INPUTS step: sampler divider, confirm count. -/
structure InputsFields where
  divider : Half
  confirm : Byte
  deriving DecidableEq, Repr

/-- DEFINE_TRIGGER and the TRIGGER step. -/
structure TriggerFields where
  trigger : Byte
  mode : Byte
  mask : Byte
  pattern : Byte
  edge : Byte
  prescale : Byte
  notify : Byte
  deriving DecidableEq, Repr

/-- SAVE: slot, segment id, label. -/
structure SaveFields where
  slot : Byte
  id : Byte
  label : List Byte
  deriving DecidableEq, Repr

/-- LOAD and the LOAD step: slot, segment id. -/
structure LoadFields where
  slot : Byte
  id : Byte
  deriving DecidableEq, Repr

/-- SET_LOCK: slot, level. -/
structure LockFields where
  slot : Byte
  level : Byte
  deriving DecidableEq, Repr

/-- A step of a plan record (R175): each kind with the fields of the request it acts as. -/
inductive PlanStep where
  | load (f : LoadFields)
  | config (f : ConfigFields)
  | rate (f : RateFields)
  | inputs (f : InputsFields)
  | trigger (f : TriggerFields)
  | enqueue (f : EnqueueFields)
  | run (mask : Byte)
  | start (mask : Byte)
  deriving DecidableEq, Repr

/-- SAVE_PLAN: run-on set, step count, the steps read, and the bytes left where a step code outside the eight stopped
the reading (R175). -/
structure PlanFields where
  runOn : Byte
  count : Byte
  steps : List PlanStep
  rest : List Byte
  deriving DecidableEq, Repr

/-- SET_NOTICES: window, enable set. -/
structure NoticesFields where
  window : Byte
  enable : Half
  deriving DecidableEq, Repr

/-- A tick: its generator, and whether it is made at the instant of the tick made last, by another generator (R61;
notes/assumptions/35.md). -/
structure TickMade where
  generator : Fin 4
  together : Bool
  deriving DecidableEq, Repr

/-- What comes about in the course of a START: the start of a channel, or an event of the part that falls between two starts
(R49: each channel starts in its own event; notes/assumptions/12.md). -/
inductive StartStep where
  | channel (c : Fin 4)
  | tick (made : TickMade)
  | tickDelivery (channel : Fin 4) (generator : Fin 4)
  | sample (levels : Byte) (order : List (Fin 8))
  | loadCompletion (cells : List (Nat × Sample))
  deriving DecidableEq, Repr

/-- START: the body of its frame, and the course its starts take. The course is no part of the frame; where it is empty, the
channels named start in rising number with nothing between. -/
structure StartRun where
  body : Body Byte
  course : List StartStep
  deriving DecidableEq, Repr

/-- The commands of the SQ4, in the order of spec/opcode_table.json. -/
inductive Instr where
  | createSegment (tag : Byte) (body : Body CreateFields)
  | writeSamples (tag : Byte) (body : Body WriteFields)
  | sealSegment (tag : Byte) (body : Body Byte)
  | deleteSegment (tag : Byte) (body : Body Byte)
  | getSegment (tag : Byte) (body : Body GetSegmentFields)
  | getPool (tag : Byte) (body : Body Unit)
  | configureChannel (tag : Byte) (body : Body ConfigFields)
  | enqueue (tag : Byte) (body : Body EnqueueFields)
  | start (tag : Byte) (run : StartRun)
  /-- STOP with any mode byte but AT_PASS_END: 0 is IMMEDIATE, another value is refused RANGE (R50). -/
  | stopImmediate (tag : Byte) (body : Body StopFields)
  /-- STOP with mode AT_PASS_END; the operand is the channel mask (R51). -/
  | stopAtPassEnd (tag : Byte) (mask : Byte)
  | release (tag : Byte) (body : Body Byte)
  | flush (tag : Byte) (body : Body Byte)
  | getChannel (tag : Byte) (body : Body Byte)
  | setRate (tag : Byte) (body : Body RateFields)
  | runRates (tag : Byte) (body : Body Byte)
  | haltRates (tag : Byte) (body : Body Byte)
  | getRates (tag : Byte) (body : Body Unit)
  | setInputs (tag : Byte) (body : Body InputsFields)
  | defineTrigger (tag : Byte) (body : Body TriggerFields)
  | fire (tag : Byte) (body : Body Byte)
  | getTrigger (tag : Byte) (body : Body Byte)
  | getInputs (tag : Byte) (body : Body Unit)
  | save (tag : Byte) (body : Body SaveFields)
  | load (tag : Byte) (body : Body LoadFields)
  | erase (tag : Byte) (body : Body Byte)
  | setLock (tag : Byte) (body : Body LockFields)
  | freeze (tag : Byte) (body : Body Byte)
  | savePlan (tag : Byte) (body : Body PlanFields)
  | clearPlan (tag : Byte) (body : Body Unit)
  | cancel (tag : Byte) (body : Body Byte)
  | getSlot (tag : Byte) (body : Body Byte)
  /-- The first slot, or none where the body omits it (R174). -/
  | getStore (tag : Byte) (body : Body (Option Byte))
  | getPlan (tag : Byte) (body : Body Unit)
  | reset (tag : Byte) (body : Body Unit)
  | abortPlan (tag : Byte) (body : Body Unit)
  | setNotices (tag : Byte) (body : Body NoticesFields)
  | getLink (tag : Byte) (body : Body Byte)
  | getPart (tag : Byte) (body : Body Unit)
  /-- A request frame whose body is empty or begins with a code outside the catalogue; the operand is the whole body. -/
  | unknownRequest (tag : Byte) (body : List Byte)
  /-- An acknowledgement frame: the sequence number and the body bytes, which are ignored (R147). -/
  | noticeAcknowledgement (seq : Byte) (body : List Byte)
  /-- A LENGTH byte outside 2–250. -/
  | lengthError (value : Byte)
  /-- A frame with the content KIND, TAG, BODY and the check received, which does not match (R146). -/
  | checkError (content : List Byte) (check : Half)
  /-- A good frame of another kind than request and acknowledgement. -/
  | kindError (kind : Byte) (tag : Byte) (body : List Byte)
  | gapError
  | stopBitError
  | huntByte (value : Byte)
  | lineBreak
  | replyFrameEnd
  | noticeFrameEnd
  | retransmitTimerExpiry
  | tick (made : TickMade)
  | tickDelivery (channel : Fin 4) (generator : Fin 4)
  /-- The levels of IN7–IN0, and the order in which triggers that fire at this sample fire: those listed first, in list
  order, then the others in rising number (R76, R83 leave it open). -/
  | sample (levels : Byte) (order : List (Fin 8))
  /-- The end of a block transfer; `cells` are the stored samples (position, code) that are found changed (R90). -/
  | blockTransfer (cells : List (Nat × Sample))
  | saveCompletion
  /-- The end of the last block transfer; `cells` as for `blockTransfer`. -/
  | loadCompletion (cells : List (Nat × Sample))
  | eraseCompletion
  | setLockCompletion
  | savePlanCompletion
  | clearPlanCompletion
  | scanCompletion
  | powerOn (straps : BitVec 2)
  | powerLoss
  | resetnAsserted
  | pinReset (straps : BitVec 2)
  | syncByte
  | frameByte (value : Byte)
  | rxdReturnsToMark
  deriving DecidableEq, Repr

end Sys2Proof
end

