-- ==== Sys2Proof/Decode.lean ====
section
/-!
DEFINITION. The bytes of request bodies, marks, plan steps and frames, written (encode) and read (decode) by the layouts of spec 08
("The frame") and spec 09 ("Body formats"). `decodeFrame` says which row of the table a good frame is.
The opcode table gives no row any bits, so `decodeTableWord` answers none.
-/

namespace Sys2Proof

/-- One-byte field. -/
def u8 (n : Nat) : List Byte := [BitVec.ofNat 8 n]

/-- Two-byte field, low byte first (spec 00, Byte order). -/
def u16 (n : Nat) : List Byte := [BitVec.ofNat 8 n, BitVec.ofNat 8 (n / 256)]

/-- Four-byte field, low byte first. -/
def u32 (n : Nat) : List Byte :=
  [BitVec.ofNat 8 n, BitVec.ofNat 8 (n / 256), BitVec.ofNat 8 (n / 65536), BitVec.ofNat 8 (n / 16777216)]

/-- The two bytes of a half, low byte first. -/
def halfBytes (h : Half) : List Byte := u16 h.toNat

/-- The half whose low byte is `lo`. -/
def half (lo hi : Byte) : Half := BitVec.ofNat 16 (lo.toNat + 256 * hi.toNat)

/-- The word of four bytes, lowest first. -/
def word (a b c d : Byte) : Word :=
  BitVec.ofNat 32 (a.toNat + 256 * b.toNat + 65536 * c.toNat + 16777216 * d.toNat)

/-- A yes/no field (R173). -/
def yesNo (b : Bool) : List Byte := if b then [1] else [0]

/-- A flag whose values the spec lists as set, clear: the position in that list (R173). -/
def setClear (b : Bool) : List Byte := if b then [0] else [1]

/-- Absent in a one-byte field is FFh (R173). -/
def optByte (o : Option Nat) : List Byte := u8 (o.getD 255)

/-! ### Marks (R174) -/

/-- The four-byte encoding of a mark. -/
def RawMark.bytes (m : RawMark) : List Byte := halfBytes m.position ++ [m.lineAction, m.fire]

/-- The bytes of a list of marks, without a count. -/
def rawMarksBytes : List RawMark → List Byte
  | [] => []
  | m :: ms => m.bytes ++ rawMarksBytes ms

/-- Reads `n` marks that fill the bytes exactly. -/
def readMarks : Nat → List Byte → Option (List RawMark)
  | 0, [] => some []
  | n + 1, lo :: hi :: la :: f :: rest =>
    match readMarks n rest with
    | some ms => some (⟨half lo hi, la, f⟩ :: ms)
    | none => none
  | _, _ => none

/-- The bytes of samples, two each, low byte first. -/
def samplesBytes : List Sample → List Byte
  | [] => []
  | x :: xs => halfBytes x ++ samplesBytes xs

/-- Reads samples that fill the bytes exactly. -/
def readSamples : List Byte → Option (List Sample)
  | [] => some []
  | lo :: hi :: rest =>
    match readSamples rest with
    | some xs => some (half lo hi :: xs)
    | none => none
  | [_] => none

/-! ### Plan steps (R175) -/

/-- The fields of CONFIGURE_CHANNEL. -/
def ConfigFields.bytes (f : ConfigFields) : List Byte := [f.channel, f.generator] ++ halfBytes f.rest

/-- The fields of ENQUEUE. -/
def EnqueueFields.bytes (f : EnqueueFields) : List Byte :=
  [f.channel, f.segment] ++ halfBytes f.repeats ++ [f.start, f.untilTrig, f.generator, f.options]

/-- The fields of SET_RATE. -/
def RateFields.bytes (f : RateFields) : List Byte := f.generator :: u32 f.divider.toNat

/-- The fields of SET_INPUTS. -/
def InputsFields.bytes (f : InputsFields) : List Byte := halfBytes f.divider ++ [f.confirm]

/-- The fields of DEFINE_TRIGGER. -/
def TriggerFields.bytes (f : TriggerFields) : List Byte :=
  [f.trigger, f.mode, f.mask, f.pattern, f.edge, f.prescale, f.notify]

/-- A plan step: its step code and the fields of the request of the same name (R175). -/
def PlanStep.bytes : PlanStep → List Byte
  | .load f => [0x61, f.slot, f.id]
  | .config f => 0x20 :: f.bytes
  | .rate f => 0x30 :: f.bytes
  | .inputs f => 0x40 :: f.bytes
  | .trigger f => 0x41 :: f.bytes
  | .enqueue f => 0x21 :: f.bytes
  | .run m => [0x31, m]
  | .start m => [0x22, m]

/-- The bytes of a list of steps. -/
def stepsBytes : List PlanStep → List Byte
  | [] => []
  | p :: ps => p.bytes ++ stepsBytes ps

/-- The eight step codes. -/
def isStepCode (c : Byte) : Bool := [0x61, 0x20, 0x30, 0x40, 0x41, 0x21, 0x31, 0x22].contains c

/-- One step and the bytes after it; none where the body ends inside the step. -/
def readStep (code : Byte) (bs : List Byte) : Option (PlanStep × List Byte) :=
  match code.toNat, bs with
  | 0x61, s :: i :: r => some (.load ⟨s, i⟩, r)
  | 0x20, c :: g :: lo :: hi :: r => some (.config ⟨c, g, half lo hi⟩, r)
  | 0x30, g :: a :: b :: c :: d :: r => some (.rate ⟨g, word a b c d⟩, r)
  | 0x40, lo :: hi :: c :: r => some (.inputs ⟨half lo hi, c⟩, r)
  | 0x41, t :: m :: k :: p :: e :: n :: y :: r => some (.trigger ⟨t, m, k, p, e, n, y⟩, r)
  | 0x21, c :: s :: lo :: hi :: st :: u :: g :: o :: r => some (.enqueue ⟨c, s, half lo hi, st, u, g, o⟩, r)
  | 0x31, m :: r => some (.run m, r)
  | 0x22, m :: r => some (.start m, r)
  | _, _ => none

/-- Reads up to `n` steps. The reading stops at a code outside the eight; the bytes from there on are the rest. It fails where the
body ends inside a step or bytes follow the last step counted (R175). DESIGN CHOICE: it fails too where the body ends between two
steps before `n` are read, which R175 does not name (notes/assumptions/36.md). -/
def readSteps : Nat → List Byte → Option (List PlanStep × List Byte)
  | 0, [] => some ([], [])
  | 0, _ :: _ => none
  | _ + 1, [] => none
  | n + 1, code :: bs =>
    if isStepCode code then
      match readStep code bs with
      | none => none
      | some (p, r) =>
        match readSteps n r with
        | none => none
        | some (ps, rest) => some (p :: ps, rest)
    else some ([], code :: bs)

/-! ### Request bodies after the code byte (R162, catalogue) -/

/-- A body of no field. -/
def readNone : List Byte → Body Unit
  | [] => .fields ()
  | bs => .malformed bs

/-- A body of one byte. -/
def readByte : List Byte → Body Byte
  | [b] => .fields b
  | bs => .malformed bs

def readCreate (bs : List Byte) : Body CreateFields :=
  match bs with
  | id :: lo :: hi :: n :: ms =>
    match readMarks n.toNat ms with
    | some marks => .fields ⟨id, half lo hi, marks⟩
    | none => .malformed bs
  | _ => .malformed bs

def readWrite (bs : List Byte) : Body WriteFields :=
  match bs with
  | id :: lo :: hi :: xs =>
    match readSamples xs with
    | some samples =>
      if 1 ≤ samples.length ∧ samples.length ≤ Config.maxWrite then .fields ⟨id, half lo hi, samples⟩
      else .malformed bs
    | none => .malformed bs
  | _ => .malformed bs

def readGetSegment : List Byte → Body GetSegmentFields
  | [a, b] => .fields ⟨a, b⟩
  | bs => .malformed bs

def readConfig : List Byte → Body ConfigFields
  | [c, g, lo, hi] => .fields ⟨c, g, half lo hi⟩
  | bs => .malformed bs

def readEnqueue : List Byte → Body EnqueueFields
  | [c, s, lo, hi, st, u, g, o] => .fields ⟨c, s, half lo hi, st, u, g, o⟩
  | bs => .malformed bs

def readRate : List Byte → Body RateFields
  | [g, a, b, c, d] => .fields ⟨g, word a b c d⟩
  | bs => .malformed bs

def readInputs : List Byte → Body InputsFields
  | [lo, hi, c] => .fields ⟨half lo hi, c⟩
  | bs => .malformed bs

def readTrigger : List Byte → Body TriggerFields
  | [t, m, k, p, e, n, y] => .fields ⟨t, m, k, p, e, n, y⟩
  | bs => .malformed bs

def readSave : List Byte → Body SaveFields
  | s :: i :: label => .fields ⟨s, i, label⟩
  | bs => .malformed bs

def readLoad : List Byte → Body LoadFields
  | [s, i] => .fields ⟨s, i⟩
  | bs => .malformed bs

def readLock : List Byte → Body LockFields
  | [s, l] => .fields ⟨s, l⟩
  | bs => .malformed bs

def readPlan (bs : List Byte) : Body PlanFields :=
  match bs with
  | runOn :: count :: xs =>
    match readSteps count.toNat xs with
    | some (steps, rest) => .fields ⟨runOn, count, steps, rest⟩
    | none => .malformed bs
  | _ => .malformed bs

def readFirst : List Byte → Body (Option Byte)
  | [] => .fields none
  | [b] => .fields (some b)
  | bs => .malformed bs

def readNotices : List Byte → Body NoticesFields
  | [w, lo, hi] => .fields ⟨w, half lo hi⟩
  | bs => .malformed bs

/-- STOP: mode 1 is the row STOP_AT_PASS_END; every other STOP frame is the row STOP_IMMEDIATE (R50, R51). -/
def readStop (tag : Byte) (bs : List Byte) : Instr :=
  match bs with
  | [m, d] => if d = 1 then .stopAtPassEnd tag m else .stopImmediate tag (.fields ⟨m, d⟩)
  | bs => .stopImmediate tag (.malformed bs)

/-- The bytes of a body after its code, by the layout of its fields. -/
def Body.bytes {α : Type} (f : α → List Byte) : Body α → List Byte
  | .fields a => f a
  | .malformed bs => bs

def CreateFields.bytes (f : CreateFields) : List Byte :=
  f.id :: (halfBytes f.length ++ u8 f.marks.length ++ rawMarksBytes f.marks)

def WriteFields.bytes (f : WriteFields) : List Byte := f.id :: (halfBytes f.offset ++ samplesBytes f.samples)

def PlanFields.bytes (f : PlanFields) : List Byte := f.runOn :: f.count :: (stepsBytes f.steps ++ f.rest)

def NoticesFields.bytes (f : NoticesFields) : List Byte := f.window :: halfBytes f.enable

/-! ### The length rule (R162) -/

/-- Bytes of a step after its step code (R175); none for a code outside the eight. -/
def stepSize (code : Byte) : Option Nat :=
  match code.toNat with
  | 0x61 => some 2
  | 0x20 => some 4
  | 0x30 => some 5
  | 0x40 => some 3
  | 0x41 => some 7
  | 0x21 => some 8
  | 0x31 => some 1
  | 0x22 => some 1
  | _ => none

/-- The format check of a SAVE_PLAN body from its fourth byte on (R175): `n` steps fill the bytes, or a step code outside
the eight stops the reading. -/
def stepsFit : Nat → List Byte → Bool
  | 0, bs => bs.isEmpty
  | _ + 1, [] => false
  | n + 1, c :: bs =>
    match stepSize c with
    | none => true
    | some k => decide (k ≤ bs.length) && stepsFit n (bs.drop k)

/-- Whether a body of this catalogue code, `bs` being the bytes after the code, has a length the catalogue gives. -/
def bodyFits (code : Byte) (bs : List Byte) : Bool :=
  match code.toNat with
  | 0x10 => decide (4 ≤ bs.length ∧ bs.length = 4 + 4 * (bs.getD 3 0).toNat)
  | 0x11 => decide (5 ≤ bs.length ∧ bs.length ≤ 243 ∧ bs.length % 2 = 1)
  | 0x14 => bs.length == 2
  | 0x20 => bs.length == 4
  | 0x21 => bs.length == 8
  | 0x23 => bs.length == 2
  | 0x30 => bs.length == 5
  | 0x40 => bs.length == 3
  | 0x41 => bs.length == 7
  | 0x60 => decide (2 ≤ bs.length)
  | 0x61 => bs.length == 2
  | 0x63 => bs.length == 2
  | 0x65 => decide (2 ≤ bs.length) && stepsFit (bs.getD 1 0).toNat (bs.drop 2)
  | 0x69 => decide (bs.length ≤ 1)
  | 0x78 => bs.length == 3
  | 0x15 | 0x33 | 0x44 | 0x66 | 0x6A | 0x70 | 0x71 | 0x7D => bs.length == 0
  | _ => bs.length == 1

/-- The request codes of the catalogue. -/
def catalogue : List Byte :=
  [0x10, 0x11, 0x12, 0x13, 0x14, 0x15, 0x20, 0x21, 0x22, 0x23, 0x24, 0x25, 0x26, 0x30, 0x31, 0x32, 0x33, 0x40, 0x41, 0x42,
   0x43, 0x44, 0x60, 0x61, 0x62, 0x63, 0x64, 0x65, 0x66, 0x67, 0x68, 0x69, 0x6A, 0x70, 0x71, 0x78, 0x7C, 0x7D]

/-! ### Frames -/

/-- KIND of a request frame. -/
def kindRequest : Byte := 0x51
/-- KIND of a reply frame. -/
def kindReply : Byte := 0x52
/-- KIND of a notice frame. -/
def kindNotice : Byte := 0x53
/-- KIND of an acknowledgement frame. -/
def kindAck : Byte := 0x54
/-- SYNC. -/
def syncValue : Byte := 0xB7

/-- LENGTH values that send the receiver to BODY (R145). -/
def goodLength (b : Byte) : Bool := decide (2 ≤ b.toNat ∧ b.toNat ≤ 250)

/-- One bit of the frame check's division by 1021h, most significant bit first (R143). -/
def crc16Bit (c : Half) : Half := if c.msb then (c <<< 1) ^^^ 0x1021#16 else c <<< 1

/-- The frame check after one more byte (R143). -/
def crc16Byte (c : Half) (b : Byte) : Half :=
  crc16Bit (crc16Bit (crc16Bit (crc16Bit (crc16Bit (crc16Bit (crc16Bit (crc16Bit
    (c ^^^ (b.setWidth 16 <<< 8)))))))))

/-- CRC-16 of the bytes: polynomial 1021h, initial value FFFFh, not complemented (R143). -/
def crc16 (bs : List Byte) : Half := bs.foldl crc16Byte 0xFFFF#16

/-- The check of a frame: the CRC over LENGTH and the content KIND, TAG, BODY (R143). -/
def frameCheck (content : List Byte) : Half := crc16 (BitVec.ofNat 8 content.length :: content)

/-- Low byte of a half. -/
def loByte (h : Half) : Byte := h.setWidth 8

/-- High byte of a half. -/
def hiByte (h : Half) : Byte := (h >>> 8).setWidth 8

/-- The bytes of a frame with this content and this check: SYNC, LENGTH, content, CHECK low byte first. -/
def frameWith (content : List Byte) (check : Half) : List Byte :=
  syncValue :: BitVec.ofNat 8 content.length :: (content ++ [loByte check, hiByte check])

/-- The bytes of a good frame (R143). -/
def frame (content : List Byte) : List Byte := frameWith content (frameCheck content)

/-- The request code of a request command (R173 catalogue). -/
def Instr.code? : Instr → Option Byte
  | .createSegment .. => some 0x10
  | .writeSamples .. => some 0x11
  | .sealSegment .. => some 0x12
  | .deleteSegment .. => some 0x13
  | .getSegment .. => some 0x14
  | .getPool .. => some 0x15
  | .configureChannel .. => some 0x20
  | .enqueue .. => some 0x21
  | .start .. => some 0x22
  | .stopImmediate .. => some 0x23
  | .stopAtPassEnd .. => some 0x23
  | .release .. => some 0x24
  | .flush .. => some 0x25
  | .getChannel .. => some 0x26
  | .setRate .. => some 0x30
  | .runRates .. => some 0x31
  | .haltRates .. => some 0x32
  | .getRates .. => some 0x33
  | .setInputs .. => some 0x40
  | .defineTrigger .. => some 0x41
  | .fire .. => some 0x42
  | .getTrigger .. => some 0x43
  | .getInputs .. => some 0x44
  | .save .. => some 0x60
  | .load .. => some 0x61
  | .erase .. => some 0x62
  | .setLock .. => some 0x63
  | .freeze .. => some 0x64
  | .savePlan .. => some 0x65
  | .clearPlan .. => some 0x66
  | .cancel .. => some 0x67
  | .getSlot .. => some 0x68
  | .getStore .. => some 0x69
  | .getPlan .. => some 0x6A
  | .reset .. => some 0x70
  | .abortPlan .. => some 0x71
  | .setNotices .. => some 0x78
  | .getLink .. => some 0x7C
  | .getPart .. => some 0x7D
  | _ => none

/-- The row a request frame of this code is; none where the code is not in the catalogue. -/
def decodeCode (tag code : Byte) (bs : List Byte) : Option Instr :=
  match code.toNat with
  | 0x10 => some (.createSegment tag (readCreate bs))
  | 0x11 => some (.writeSamples tag (readWrite bs))
  | 0x12 => some (.sealSegment tag (readByte bs))
  | 0x13 => some (.deleteSegment tag (readByte bs))
  | 0x14 => some (.getSegment tag (readGetSegment bs))
  | 0x15 => some (.getPool tag (readNone bs))
  | 0x20 => some (.configureChannel tag (readConfig bs))
  | 0x21 => some (.enqueue tag (readEnqueue bs))
  | 0x22 => some (.start tag ⟨readByte bs, []⟩)
  | 0x23 => some (readStop tag bs)
  | 0x24 => some (.release tag (readByte bs))
  | 0x25 => some (.flush tag (readByte bs))
  | 0x26 => some (.getChannel tag (readByte bs))
  | 0x30 => some (.setRate tag (readRate bs))
  | 0x31 => some (.runRates tag (readByte bs))
  | 0x32 => some (.haltRates tag (readByte bs))
  | 0x33 => some (.getRates tag (readNone bs))
  | 0x40 => some (.setInputs tag (readInputs bs))
  | 0x41 => some (.defineTrigger tag (readTrigger bs))
  | 0x42 => some (.fire tag (readByte bs))
  | 0x43 => some (.getTrigger tag (readByte bs))
  | 0x44 => some (.getInputs tag (readNone bs))
  | 0x60 => some (.save tag (readSave bs))
  | 0x61 => some (.load tag (readLoad bs))
  | 0x62 => some (.erase tag (readByte bs))
  | 0x63 => some (.setLock tag (readLock bs))
  | 0x64 => some (.freeze tag (readByte bs))
  | 0x65 => some (.savePlan tag (readPlan bs))
  | 0x66 => some (.clearPlan tag (readNone bs))
  | 0x67 => some (.cancel tag (readByte bs))
  | 0x68 => some (.getSlot tag (readByte bs))
  | 0x69 => some (.getStore tag (readFirst bs))
  | 0x6A => some (.getPlan tag (readNone bs))
  | 0x70 => some (.reset tag (readNone bs))
  | 0x71 => some (.abortPlan tag (readNone bs))
  | 0x78 => some (.setNotices tag (readNotices bs))
  | 0x7C => some (.getLink tag (readByte bs))
  | 0x7D => some (.getPart tag (readNone bs))
  | _ => none

/-- The row a request frame with this TAG and BODY is. -/
def decodeRequest (tag : Byte) (body : List Byte) : Instr :=
  match body with
  | [] => .unknownRequest tag []
  | code :: bs =>
    match decodeCode tag code bs with
    | some i => i
    | none => .unknownRequest tag body

/-- The row a good frame is, by its KIND (R147). `content` is KIND, TAG and BODY; LENGTH is at least 2, so both are
there. -/
def decodeFrame (content : List Byte) : Option Instr :=
  match content with
  | kind :: tag :: body =>
    if kind = kindRequest then some (decodeRequest tag body)
    else if kind = kindAck then some (.noticeAcknowledgement tag body)
    else some (.kindError kind tag body)
  | _ => none

/-- The bytes after the code of a request command. -/
def Instr.bodyBytes : Instr → List Byte
  | .createSegment _ b => b.bytes CreateFields.bytes
  | .writeSamples _ b => b.bytes WriteFields.bytes
  | .sealSegment _ b => b.bytes (fun x => [x])
  | .deleteSegment _ b => b.bytes (fun x => [x])
  | .getSegment _ b => b.bytes (fun f => [f.id, f.index])
  | .getPool _ b => b.bytes (fun _ => [])
  | .configureChannel _ b => b.bytes ConfigFields.bytes
  | .enqueue _ b => b.bytes EnqueueFields.bytes
  | .start _ r => r.body.bytes (fun x => [x])
  | .stopImmediate _ b => b.bytes (fun f => [f.mask, f.mode])
  | .stopAtPassEnd _ m => [m, 1]
  | .release _ b => b.bytes (fun x => [x])
  | .flush _ b => b.bytes (fun x => [x])
  | .getChannel _ b => b.bytes (fun x => [x])
  | .setRate _ b => b.bytes RateFields.bytes
  | .runRates _ b => b.bytes (fun x => [x])
  | .haltRates _ b => b.bytes (fun x => [x])
  | .getRates _ b => b.bytes (fun _ => [])
  | .setInputs _ b => b.bytes InputsFields.bytes
  | .defineTrigger _ b => b.bytes TriggerFields.bytes
  | .fire _ b => b.bytes (fun x => [x])
  | .getTrigger _ b => b.bytes (fun x => [x])
  | .getInputs _ b => b.bytes (fun _ => [])
  | .save _ b => b.bytes (fun f => f.slot :: f.id :: f.label)
  | .load _ b => b.bytes (fun f => [f.slot, f.id])
  | .erase _ b => b.bytes (fun x => [x])
  | .setLock _ b => b.bytes (fun f => [f.slot, f.level])
  | .freeze _ b => b.bytes (fun x => [x])
  | .savePlan _ b => b.bytes PlanFields.bytes
  | .clearPlan _ b => b.bytes (fun _ => [])
  | .cancel _ b => b.bytes (fun x => [x])
  | .getSlot _ b => b.bytes (fun x => [x])
  | .getStore _ b => b.bytes (fun o => o.toList)
  | .getPlan _ b => b.bytes (fun _ => [])
  | .reset _ b => b.bytes (fun _ => [])
  | .abortPlan _ b => b.bytes (fun _ => [])
  | .setNotices _ b => b.bytes NoticesFields.bytes
  | .getLink _ b => b.bytes (fun x => [x])
  | .getPart _ b => b.bytes (fun _ => [])
  | _ => []

/-- The TAG of a request command. -/
def Instr.tag : Instr → Byte
  | .createSegment t _ | .writeSamples t _ | .sealSegment t _ | .deleteSegment t _ | .getSegment t _ | .getPool t _
  | .configureChannel t _ | .enqueue t _ | .start t _ | .stopImmediate t _ | .stopAtPassEnd t _ | .release t _
  | .flush t _ | .getChannel t _ | .setRate t _ | .runRates t _ | .haltRates t _ | .getRates t _ | .setInputs t _
  | .defineTrigger t _ | .fire t _ | .getTrigger t _ | .getInputs t _ | .save t _ | .load t _ | .erase t _
  | .setLock t _ | .freeze t _ | .savePlan t _ | .clearPlan t _ | .cancel t _ | .getSlot t _ | .getStore t _
  | .getPlan t _ | .reset t _ | .abortPlan t _ | .setNotices t _ | .getLink t _ | .getPart t _
  | .unknownRequest t _ => t
  | _ => 0

/-- KIND, TAG and BODY of the good frame that a command stands for; none for a command that is not a good frame. A START with a
course is more than its frame. -/
def Instr.content? (i : Instr) : Option (List Byte) :=
  match i with
  | .unknownRequest t body => some (kindRequest :: t :: body)
  | .noticeAcknowledgement n body => some (kindAck :: n :: body)
  | .kindError k t body => some (k :: t :: body)
  | .start _ ⟨_, _ :: _⟩ => none
  | i =>
    match i.code? with
    | some c => some (kindRequest :: i.tag :: c :: i.bodyBytes)
    | none => none

/-- The command that a word spells by the table's bits. The table gives bits to no row ("fields": [] in each), so no word
spells a command. -/
def decodeTableWord (_nbits _w : Nat) : Option Instr := none

end Sys2Proof
end

