-- ==== Sys2Proof/Machine/State.lean ====
section
/-!
DEFINITION. The state of the SQ4, block by block (spec 00, "Block overview"), as plain data, and the state after reset.
INVENTORY.md lists each field with the rule that names it.
-/

namespace Sys2Proof.Machine

/-! ### Status codes -/

/-- The status codes (spec 09, "Status codes"). -/
inductive Status where
  | ok | badFormat | unknownRequest | tagInUse | tableFull | starting | range | channelRunning | alreadyRunning
  | queueFull | nothingToRelease | noSuchSegment | idInUse | mapFull | poolFull | segmentState | segmentBusy
  | outOfOrder | retiring | triggerOff | jobsFull | slotBusy | slotNotBlank | slotEmpty | slotLocked | slotFrozen
  | slotWorn | checkFailed | cancelled | noSuchJob | notCancellable | planInvalid | notStarting
  deriving DecidableEq, Repr

/-! ### Segment Pool -/

/-- Marker line of a channel, named by a mark (R5). -/
inductive Line where
  | m0 | m1
  deriving DecidableEq, Repr

/-- What a mark does to its line (R36, R37). -/
inductive MarkAction where
  | none | set | clear | toggle | pulse
  deriving DecidableEq, Repr

/-- A mark record (R5). -/
structure Mark where
  position : Nat
  line : Line
  action : MarkAction
  fire : Option (Fin 8)
  deriving DecidableEq, Repr

/-- Life-cycle state of a segment (spec 01, "Segment states"). -/
inductive SegState where
  | filling | loading | ready | failed
  deriving DecidableEq, Repr

/-- Where a segment's contents come from. -/
inductive Origin where
  | host
  | slot (n : Fin 32)
  deriving DecidableEq, Repr

/-- A segment record (spec 01, "The segment map and the segment record"). -/
structure Segment where
  id : Byte
  state : SegState
  length : Nat
  fill : Nat
  blocks : List Nat
  marks : List Mark
  refs : Nat
  retiring : Bool
  origin : Origin
  deriving DecidableEq, Repr

/-- The sample memory: byte cells with rising addresses, none equal to 0 (`Memory.wf`). -/
abbrev Memory := List Host.Cell

/-- The Segment Pool: block contents, free list, segment map (kept in rising order of id). -/
structure Pool where
  mem : Memory
  free : List Nat
  map : List Segment
  deriving DecidableEq, Repr

/-! ### Channel Players -/

/-- Channel states (spec 02, "Channel states"). -/
inductive ChanState where
  | stopped | waiting | playing | starved | drained
  deriving DecidableEq, Repr

/-- Start condition of an entry. -/
inductive StartCond where
  | immediate
  | onTrigger (t : Fin 8)
  deriving DecidableEq, Repr

/-- What an entry leaves on the output (R41). -/
inductive EndAction where
  | hold | rest
  deriving DecidableEq, Repr

/-- An entry of a play queue (spec 02, "Entries and the play queue"). `spent` is the model's own field: of a head that a fire mark
started, the deliveries in flight at that moment that emit nothing (R42; notes/assumptions/10.md). -/
structure Entry where
  segment : Byte
  repeats : Nat
  start : StartCond
  untilTrig : Option (Fin 8)
  endAction : EndAction
  generator : Option (Fin 4)
  notify : Bool
  started : Bool
  passes : Nat
  cursor : Nat
  released : Bool
  stopPending : Bool
  spent : Nat := 0
  deriving DecidableEq, Repr

/-- A marker line: its level and its pending pulse, the generator whose next tick ends it (R37). -/
structure MarkerLine where
  level : Bool
  pulse : Option (Fin 4)
  deriving DecidableEq, Repr

/-- A channel player (spec 02, "Channel configuration and outputs"). `emittedAt` is the model's own field: the instants of the ticks
at which it has emitted since its START, of those that a later delivery may still have (R61; notes/assumptions/35.md). -/
structure Channel where
  defaultGen : Fin 4
  restCode : Sample
  activeGen : Fin 4
  state : ChanState
  queue : List Entry
  output : Sample
  m0 : MarkerLine
  m1 : MarkerLine
  counter : Word
  emittedAt : List Nat
  deriving DecidableEq, Repr

/-! ### Rate Generators -/

/-- A rate generator (spec 03, "Generator state"). `tickedAt` is the model's own field: the instant of its last tick, 0 before the
first; instants are numbered in the order in which ticks are made (R61; notes/assumptions/35.md). -/
structure Generator where
  divider : Nat
  running : Bool
  elapsed : Nat
  ticks : Word
  tickedAt : Nat
  deriving DecidableEq, Repr

/-- A tick on its way to a channel that listened when it was made (R60; notes/assumptions/9.md), with its number and its instant. -/
structure Delivery where
  gen : Fin 4
  chan : Fin 4
  tick : Word
  instant : Nat
  deriving DecidableEq, Repr

/-! ### Trigger Unit -/

/-- Trigger modes. -/
inductive TrigMode where
  | off | change | matching | soft
  deriving DecidableEq, Repr

/-- The direction of change that counts (R72). -/
inductive Edge where
  | rise | fall | any
  deriving DecidableEq, Repr

/-- A trigger: definition and runtime record. -/
structure Trigger where
  mode : TrigMode
  mask : Byte
  pattern : Byte
  edge : Edge
  prescale : Nat
  notify : Bool
  count : Nat
  matched : Bool
  fires : Word
  captured : Byte
  deriving DecidableEq, Repr

/-- The Trigger Unit. Levels hold line INn in bit n, 1 for high. -/
structure TriggerUnit where
  divider : Nat
  confirm : Nat
  elapsed : Nat
  sampled : Bool
  raw : Byte
  confirmed : Byte
  runs : Vector Nat 8
  triggers : Vector Trigger 8
  deriving DecidableEq, Repr

/-! ### Library Store -/

/-- The state field of a slot header. TORN is not stored here: it follows from the announced operation (R88). -/
inductive Content where
  | blank | stored
  deriving DecidableEq, Repr

/-- The announced operation of a slot header (R88). -/
inductive SlotOp where
  | none | save | erase
  deriving DecidableEq, Repr

/-- Persistent lock level. -/
inductive Lock where
  | unlocked | locked
  deriving DecidableEq, Repr

/-- A library slot: header, freeze flag and data area (spec 05, "Slot contents"). -/
structure Slot where
  content : Content
  operation : SlotOp
  length : Nat
  marks : List Mark
  label : List Byte
  check : Word
  lock : Lock
  saveCount : Nat
  freeze : Bool
  data : List Sample
  deriving DecidableEq, Repr

/-- A plan record: run-on set (bit 0 POWER_ON, 1 PIN, 2 SOFT) and steps (R97). -/
structure PlanRecord where
  runOn : Byte
  steps : List PlanStep
  deriving DecidableEq, Repr

/-- The announced operation of the plan area (R96). -/
inductive PlanOp where
  | none | write | clear
  deriving DecidableEq, Repr

/-- The plan area. -/
structure PlanArea where
  record : Option PlanRecord
  operation : PlanOp
  deriving DecidableEq, Repr

/-- The library store. -/
structure Store where
  slots : Vector Slot 32
  plan : PlanArea
  deriving DecidableEq, Repr

/-! ### Store Controller -/

/-- Kind of a job with the fields its kind has (spec 06, "The job list"). -/
inductive Work where
  | save (slot : Fin 32) (segment : Byte) (label : List Byte)
  | load (slot : Fin 32) (segment : Byte)
  | erase (slot : Fin 32)
  | setLock (slot : Fin 32) (level : Lock)
  | savePlan (record : PlanRecord)
  | clearPlan
  deriving DecidableEq, Repr

/-- Where a job's outcome goes (R104): a pending entry, by its tag and whether it is orphaned, or a plan step. -/
inductive JobOrigin where
  | request (tag : Byte) (orphaned : Bool)
  | plan
  deriving DecidableEq, Repr

/-- Place of a job in the controller. -/
inductive JobState where
  | queued | active | suspended
  deriving DecidableEq, Repr

/-- A store job. -/
structure Job where
  work : Work
  origin : JobOrigin
  state : JobState
  remaining : Nat
  suspensions : Nat
  deriving DecidableEq, Repr

/-! ### Start-up Controller -/

/-- Reset causes (R127). -/
inductive Cause where
  | powerOn | pin | soft
  deriving DecidableEq, Repr

/-- Position of the controller in its work. -/
inductive Phase where
  | scanning | plan | ready
  deriving DecidableEq, Repr

/-- State of the plan area as the scan finds it, and its stored state (R96). -/
inductive PlanState where
  | none | stored | torn
  deriving DecidableEq, Repr

/-- Outcome of a plan run. -/
inductive PlanResult where
  | notRun
  | completed
  | failed (step : Nat) (status : Status)
  | aborted (step : Nat)
  deriving DecidableEq, Repr

/-- The Start-up Controller (spec 07, "Start-up Controller state"). -/
structure Startup where
  cause : Cause
  phase : Phase
  blank : Nat
  stored : Nat
  torn : Nat
  planState : PlanState
  step : Option Nat
  result : Option PlanResult
  planStarted : BitVec 4
  resetPending : Bool
  deriving DecidableEq, Repr

/-! ### Host Link and Request Table -/

/-- A timer: stopped, or running with the reference periods that have passed. -/
inductive Timer where
  | stopped
  | running (elapsed : Nat)
  deriving DecidableEq, Repr

/-- The receiver (spec 08, "The receiver"). Inside a frame it holds LENGTH, the bytes collected and the first check
byte. -/
inductive Receiver where
  | hunt
  | length
  | body (len : Nat) (got : List Byte)
  | check (len : Nat) (got : List Byte) (first : Option Byte)
  deriving DecidableEq, Repr

/-- An item of the reply line: a reply of a pending entry, or a refusal record (R160). -/
inductive LineItem where
  | reply (tag : Byte) (code : Byte) (status : Status) (data : List Byte)
  | refusal (tag : Byte) (code : Byte) (status : Status)
  deriving DecidableEq, Repr

/-- The transmitter (R154): free, or sending a frame whose bytes were fixed at its start (R155, R156). -/
inductive Transmitter where
  | free
  | reply (item : LineItem) (frame : List Byte)
  | notice (seq : Byte) (frame : List Byte)
  deriving DecidableEq, Repr

/-- The link counters (R158), in the order of its table. -/
structure Counters where
  goodFrames : Half
  huntBytes : Half
  lengthErrors : Half
  checkErrors : Half
  gapErrors : Half
  kindErrors : Half
  stopBitErrors : Half
  breaks : Half
  refusalsDropped : Half
  unknownAcks : Half
  replyFrames : Half
  noticeFrames : Half
  deriving DecidableEq, Repr

/-- The Host Link. -/
structure Link where
  straps : BitVec 2
  receiver : Receiver
  gap : Timer
  breakHeld : Bool
  tx : Transmitter
  counters : Counters
  deriving DecidableEq, Repr

/-- Where the reply of a pending entry stands. -/
inductive EntryState where
  | awaiting | queued | sending
  deriving DecidableEq, Repr

/-- A pending entry (spec 09, "The Request Table"). -/
structure Pending where
  tag : Byte
  code : Byte
  state : EntryState
  orphaned : Bool
  deriving DecidableEq, Repr

/-- The Request Table. -/
structure Table where
  entries : List Pending
  line : List LineItem
  deriving DecidableEq, Repr

/-! ### Notice Queue -/

/-- Notice kinds, in the order of their codes 01h–09h (R182). -/
inductive NoticeKind where
  | entryDone | drained | starved | entrySkipped | triggerFired | segmentFreed | linkFault | started | lost
  deriving DecidableEq, Repr

/-- Where a notice happened. -/
inductive Source where
  | part
  | link
  | channel (c : Fin 4)
  | trigger (t : Fin 8)
  | segment (id : Byte)
  deriving DecidableEq, Repr

/-- Delivery state of a record, with the sequence number it carries once it has been sent (R178). -/
inductive NoticeState where
  | new
  | sent (seq : Byte)
  | resend (seq : Byte)
  deriving DecidableEq, Repr

/-- A notice record. `detail` is the detail as it is transmitted (R182). -/
structure Notice where
  kind : NoticeKind
  source : Source
  detail : List Byte
  count : Half
  state : NoticeState
  deriving DecidableEq, Repr

/-- The Notice Queue. `enable` holds kind code k in bit k − 1. -/
structure Notices where
  records : List Notice
  window : Nat
  enable : BitVec 9
  nextSeq : Byte
  tally : Half
  total : Half
  timer : Timer
  deriving DecidableEq, Repr

/-! ### The part -/

/-- The whole machine. `pending` is the queue of commands waiting, front first; no command's effect touches it. -/
structure State where
  powered : Bool
  resetnLow : Bool
  pool : Pool
  channels : Vector Channel 4
  generators : Vector Generator 4
  deliveries : List Delivery
  trig : TriggerUnit
  store : Store
  jobs : List Job
  startup : Startup
  link : Link
  table : Table
  notices : Notices
  pending : List Instr
  deriving DecidableEq, Repr

/-- The SQ4 has no fault that stops it: what the manual calls faults are statuses, notices and counters. No command raises
one. -/
inductive Fault where
  deriving DecidableEq, Repr

/-- Why a command has no meaning. -/
inductive Refusal where
  /-- Raised only by an arm of `exec` whose command has no meaning yet. Safe: no claim about the command holds. -/
  | notModelled (mnemonic : String)
  deriving DecidableEq, Repr

/-! ### Reset values -/

/-- A pool after a reset (R3). -/
def Pool.reset : Pool where
  mem := []
  free := List.range Config.poolBlocks
  map := []

/-- A low line without a pulse. -/
def MarkerLine.low : MarkerLine := ⟨false, none⟩

/-- Channel `n` after a reset (R25). -/
def Channel.reset (n : Fin 4) : Channel where
  defaultGen := n
  restCode := Config.midScale
  activeGen := n
  state := .stopped
  queue := []
  output := Config.midScale
  m0 := .low
  m1 := .low
  counter := 0
  emittedAt := []

/-- A generator after a reset (R58). -/
def Generator.reset : Generator where
  divider := Config.resetDivider
  running := false
  elapsed := 0
  ticks := 0
  tickedAt := 0

/-- A trigger after a reset (R68). -/
def Trigger.reset : Trigger where
  mode := .off
  mask := 0
  pattern := 0
  edge := .any
  prescale := 1
  notify := false
  count := 0
  matched := false
  fires := 0
  captured := 0

/-- The Trigger Unit after a reset (R68). -/
def TriggerUnit.reset : TriggerUnit where
  divider := Config.resetSampler
  confirm := 2
  elapsed := 0
  sampled := false
  raw := 0
  confirmed := 0
  runs := Vector.replicate 8 0
  triggers := Vector.replicate 8 Trigger.reset

/-- A slot as shipped (R87). -/
def Slot.shipped : Slot where
  content := .blank
  operation := .none
  length := 0
  marks := []
  label := []
  check := 0
  lock := .unlocked
  saveCount := 0
  freeze := false
  data := []

/-- The store as shipped (R87). -/
def Store.shipped : Store where
  slots := Vector.replicate 32 Slot.shipped
  plan := ⟨none, .none⟩

/-- The Start-up Controller when a reset of this cause takes effect (spec 07, its table). -/
def Startup.reset (cause : Cause) : Startup where
  cause := cause
  phase := .scanning
  blank := 0
  stored := 0
  torn := 0
  planState := .none
  step := none
  result := none
  planStarted := 0
  resetPending := false

/-- Counters at 0 (R158). -/
def Counters.zero : Counters := ⟨0, 0, 0, 0, 0, 0, 0, 0, 0, 0, 0, 0⟩

/-- The link after a reset, with the straps it holds (R142, R144, R158). -/
def Link.reset (straps : BitVec 2) : Link where
  straps := straps
  receiver := .hunt
  gap := .stopped
  breakHeld := false
  tx := .free
  counters := .zero

/-- The Notice Queue after a reset (R178). -/
def Notices.reset : Notices where
  records := []
  window := 4
  enable := 0x1FF
  nextSeq := 0
  tally := 0
  total := 0
  timer := .stopped

/-- Right after POWER_ON of a part as shipped, with both straps at 0 (notes/assumptions/1.md). -/
def State.reset : State where
  powered := true
  resetnLow := false
  pool := .reset
  channels := #v[.reset 0, .reset 1, .reset 2, .reset 3]
  generators := Vector.replicate 4 .reset
  deliveries := []
  trig := .reset
  store := .shipped
  jobs := []
  startup := .reset .powerOn
  link := .reset 0
  table := ⟨[], []⟩
  notices := .reset
  pending := []

end Sys2Proof.Machine
end

