-- ==== Sys2Proof/Machine/Operands.lean ====
section
/-!
DEFINITION. The operand forms of the commands: the values a request field may name, with the check that refuses the others
RANGE (R174 and the owners' chapters), and the byte each named value takes in replies and notices (R173, R182).
-/

namespace Sys2Proof.Machine

/-! ### Names to bytes -/

/-- Status codes (spec 09, "Status codes"). -/
def Status.code : Status → Byte
  | .ok => 0x00
  | .badFormat => 0x01
  | .unknownRequest => 0x02
  | .tagInUse => 0x03
  | .tableFull => 0x04
  | .starting => 0x05
  | .range => 0x06
  | .channelRunning => 0x07
  | .alreadyRunning => 0x08
  | .queueFull => 0x09
  | .nothingToRelease => 0x0A
  | .noSuchSegment => 0x0B
  | .idInUse => 0x0C
  | .mapFull => 0x0D
  | .poolFull => 0x0E
  | .segmentState => 0x0F
  | .segmentBusy => 0x10
  | .outOfOrder => 0x11
  | .retiring => 0x12
  | .triggerOff => 0x13
  | .jobsFull => 0x14
  | .slotBusy => 0x15
  | .slotNotBlank => 0x16
  | .slotEmpty => 0x17
  | .slotLocked => 0x18
  | .slotFrozen => 0x19
  | .slotWorn => 0x1A
  | .checkFailed => 0x1B
  | .cancelled => 0x1C
  | .noSuchJob => 0x1D
  | .notCancellable => 0x1E
  | .planInvalid => 0x1F
  | .notStarting => 0x20

/-- Segment state, by the list of the segment record (R182). -/
def SegState.num : SegState → Nat
  | .filling => 0
  | .loading => 1
  | .ready => 2
  | .failed => 3

/-- Origin: the slot, or FFh for HOST (R173). -/
def Origin.num : Origin → Nat
  | .host => 255
  | .slot n => n.val

/-- Channel state, by the list of the channel table. -/
def ChanState.num : ChanState → Nat
  | .stopped => 0
  | .waiting => 1
  | .playing => 2
  | .starved => 3
  | .drained => 4

def EndAction.num : EndAction → Nat
  | .hold => 0
  | .rest => 1

/-- Start in the encoding of ENQUEUE (R174). -/
def StartCond.num : StartCond → Nat
  | .immediate => 0x80
  | .onTrigger t => t.val

def TrigMode.num : TrigMode → Nat
  | .off => 0
  | .change => 1
  | .matching => 2
  | .soft => 3

def Edge.num : Edge → Nat
  | .rise => 0
  | .fall => 1
  | .any => 2

def Lock.num : Lock → Nat
  | .unlocked => 0
  | .locked => 1

def JobState.num : JobState → Nat
  | .queued => 0
  | .active => 1
  | .suspended => 2

/-- Kind of a job, by the list of the job table. -/
def Work.num : Work → Nat
  | .save .. => 0
  | .load .. => 1
  | .erase .. => 2
  | .setLock .. => 3
  | .savePlan .. => 4
  | .clearPlan => 5

/-- Request code of the request that a job of this kind answers. -/
def Work.code : Work → Byte
  | .save .. => 0x60
  | .load .. => 0x61
  | .erase .. => 0x62
  | .setLock .. => 0x63
  | .savePlan .. => 0x65
  | .clearPlan => 0x66

/-- The slot a job names; none for the plan jobs. -/
def Work.slot? : Work → Option (Fin 32)
  | .save n _ _ => some n
  | .load n _ => some n
  | .erase n => some n
  | .setLock n _ => some n
  | .savePlan _ => none
  | .clearPlan => none

/-- The segment a job names; none for the kinds without one. -/
def Work.segment? : Work → Option Byte
  | .save _ id _ => some id
  | .load _ id => some id
  | _ => none

def Cause.num : Cause → Nat
  | .powerOn => 0
  | .pin => 1
  | .soft => 2

def PlanState.num : PlanState → Nat
  | .none => 0
  | .stored => 1
  | .torn => 2

/-- Code of a notice kind (R182). -/
def NoticeKind.num : NoticeKind → Nat
  | .entryDone => 1
  | .drained => 2
  | .starved => 3
  | .entrySkipped => 4
  | .triggerFired => 5
  | .segmentFreed => 6
  | .linkFault => 7
  | .started => 8
  | .lost => 9

/-- Source class and source number of a notice (R156). -/
def Source.bytes : Source → List Byte
  | .part => [0, 0]
  | .link => [1, 0]
  | .channel c => 2 :: u8 c.val
  | .trigger t => 3 :: u8 t.val
  | .segment id => [4, id]

/-- The body of a notice (R156). -/
def Notice.body (r : Notice) : List Byte :=
  u8 r.kind.num ++ u16 r.count.toNat ++ r.source.bytes ++ r.detail

/-! ### Marks (R5, R174) -/

def Line.num : Line → Nat
  | .m0 => 0
  | .m1 => 1

def MarkAction.num : MarkAction → Nat
  | .none => 0
  | .set => 1
  | .clear => 2
  | .toggle => 3
  | .pulse => 4

/-- The four-byte encoding of a stored mark. -/
def Mark.bytes (m : Mark) : List Byte :=
  u16 m.position ++ u8 (m.action.num + 16 * m.line.num) ++ optByte (m.fire.map (·.val))

/-- The bytes of a mark list, without a count. -/
def marksBytes : List Mark → List Byte
  | [] => []
  | m :: ms => m.bytes ++ marksBytes ms

/-- The low four bits of the line-and-action byte. -/
def actionOf (b : Byte) : Option MarkAction :=
  match b.toNat % 16 with
  | 0 => some .none
  | 1 => some .set
  | 2 => some .clear
  | 3 => some .toggle
  | 4 => some .pulse
  | _ => none

/-- The high four bits of the line-and-action byte. -/
def lineOf (b : Byte) : Option Line :=
  match b.toNat / 16 with
  | 0 => some .m0
  | 1 => some .m1
  | _ => none

/-- A trigger number or absent (FFh); none for 8–FEh. -/
def optTrig (b : Byte) : Option (Option (Fin 8)) :=
  if b = 255 then some none
  else if h : b.toNat < 8 then some (some ⟨b.toNat, h⟩)
  else none

/-- A mark that passes the checks of R5 in a segment of this length. -/
def markOf (length : Nat) (m : RawMark) : Option Mark :=
  match lineOf m.lineAction, actionOf m.lineAction, optTrig m.fire with
  | some line, some action, some fire =>
    if m.position.toNat < length ∧ ¬(action = .none ∧ fire = none) then
      some ⟨m.position.toNat, line, action, fire⟩
    else none
  | _, _, _ => none

/-- Puts a mark behind those of the same and of lower positions (R5). -/
def insertMark (m : Mark) : List Mark → List Mark
  | [] => [m]
  | x :: xs => if m.position < x.position then m :: x :: xs else x :: insertMark m xs

/-- Marks in rising position, equal positions in the order given (R5). -/
def sortMarks (ms : List Mark) : List Mark := ms.foldl (fun acc m => insertMark m acc) []

/-- Every mark checked, in the order given; none when one fails. -/
def marksOf (length : Nat) : List RawMark → Option (List Mark)
  | [] => some []
  | m :: ms =>
    match markOf length m, marksOf length ms with
    | some x, some xs => some (x :: xs)
    | _, _ => none

/-- The mark list of a CREATE_SEGMENT: checked whole, at most 16, sorted (R5). -/
def markList (length : Nat) (ms : List RawMark) : Option (List Mark) :=
  if ms.length ≤ Config.maxMarks then (marksOf length ms).map sortMarks else none

/-! ### Numbers in range -/

/-- Segment ids are 1–254 (R4). -/
def idOk (id : Byte) : Bool := decide (id ≠ 0 ∧ id ≠ 255)

/-- A channel or generator number 0–3. -/
def fin4 (b : Byte) : Option (Fin 4) := if h : b.toNat < 4 then some ⟨b.toNat, h⟩ else none

/-- A trigger number 0–7. -/
def fin8 (b : Byte) : Option (Fin 8) := if h : b.toNat < 8 then some ⟨b.toNat, h⟩ else none

/-- A slot number 0–31. -/
def fin32 (b : Byte) : Option (Fin 32) := if h : b.toNat < 32 then some ⟨b.toNat, h⟩ else none

/-- A mask of channels or generators: not 0, no bit above bit 3 (R174). -/
def maskOk (m : Byte) : Bool := decide (m ≠ 0 ∧ m.toNat < 16)

/-- The channels or generators a mask names, in rising number. -/
def named (m : Byte) : List (Fin 4) := [0, 1, 2, 3].filter (fun c => m.getLsbD c.val)

/-- The one-byte mask of the members of a set. -/
def maskOf (p : Fin 4 → Bool) : Byte :=
  (if p 0 then 1 else 0) ||| (if p 1 then 2 else 0) ||| (if p 2 then 4 else 0) ||| (if p 3 then 8 else 0)

/-- Pool blocks of a segment of this length: ⌈length/64⌉ (R1). -/
def blocksFor (length : Nat) : Nat := (length + (Config.blockSamples - 1)) / Config.blockSamples

/-! ### The fields of an entry (R47, R174) -/

/-- 80h is IMMEDIATE, 0–7 is ON_TRIGGER. -/
def startOf (b : Byte) : Option StartCond :=
  if b = 0x80 then some .immediate
  else if h : b.toNat < 8 then some (.onTrigger ⟨b.toNat, h⟩)
  else none

/-- A generator override 0–3, or absent (FFh). -/
def optGen (b : Byte) : Option (Option (Fin 4)) :=
  if b = 255 then some none
  else if h : b.toNat < 4 then some (some ⟨b.toNat, h⟩)
  else none

/-- The end action and the notify flag of the options byte; none above 3. -/
def optionsOf (b : Byte) : Option (EndAction × Bool) :=
  match b.toNat with
  | 0 => some (.hold, false)
  | 1 => some (.rest, false)
  | 2 => some (.hold, true)
  | 3 => some (.rest, true)
  | _ => none

/-- The channel and the new entry of an ENQUEUE whose fields pass the RANGE check (R47); the runtime fields are as the entry
table gives them at ENQUEUE. -/
def entryOf (f : EnqueueFields) : Option (Fin 4 × Entry) :=
  match fin4 f.channel, startOf f.start, optTrig f.untilTrig, optGen f.generator, optionsOf f.options with
  | some c, some st, some u, some g, some (ea, nt) =>
    if idOk f.segment then
      some (c, { segment := f.segment, repeats := f.repeats.toNat, start := st, untilTrig := u, endAction := ea,
                 generator := g, notify := nt, started := false, passes := 0, cursor := 0, released := false,
                 stopPending := false })
    else none
  | _, _, _, _, _ => none

/-! ### The fields of a trigger definition (R79, R174) -/

def modeOf (b : Byte) : Option TrigMode :=
  match b.toNat with
  | 0 => some .off
  | 1 => some .change
  | 2 => some .matching
  | 3 => some .soft
  | _ => none

def edgeOf (b : Byte) : Option Edge :=
  match b.toNat with
  | 0 => some .rise
  | 1 => some .fall
  | 2 => some .any
  | _ => none

/-- The trigger, mode and edge of a definition that passes the RANGE check of DEFINE_TRIGGER (R79). -/
def definitionOf (f : TriggerFields) : Option (Fin 8 × TrigMode × Edge) :=
  match fin8 f.trigger, modeOf f.mode, edgeOf f.edge with
  | some t, some m, some e =>
    if f.prescale ≠ 0 ∧ ¬((m = .change ∨ m = .matching) ∧ f.mask = 0) then some (t, m, e) else none
  | _, _, _ => none

/-! ### Other request fields -/

/-- The level of a SET_LOCK. -/
def levelOf (b : Byte) : Option Lock :=
  match b.toNat with
  | 0 => some .unlocked
  | 1 => some .locked
  | _ => none

/-- A label: 0–12 printable characters 20h–7Eh (R91). -/
def labelOk (l : List Byte) : Bool :=
  decide (l.length ≤ Config.maxLabel) && l.all (fun c => decide (0x20 ≤ c.toNat ∧ c.toNat ≤ 0x7E))

/-- The RANGE check of CONFIGURE_CHANNEL (R26). -/
def configOf (f : ConfigFields) : Option (Fin 4 × Fin 4) :=
  match fin4 f.channel, fin4 f.generator with
  | some c, some g => some (c, g)
  | _, _ => none

/-- The RANGE check of SET_RATE (R62). -/
def rateOf (f : RateFields) : Option (Fin 4) :=
  if Config.minDivider ≤ f.divider.toNat ∧ f.divider.toNat ≤ Config.maxDivider then fin4 f.generator else none

/-- The RANGE check of SET_INPUTS (R75). -/
def inputsOk (f : InputsFields) : Bool :=
  decide (Config.minDivider ≤ f.divider.toNat ∧ 1 ≤ f.confirm.toNat ∧ f.confirm.toNat ≤ Config.maxConfirm)

/-- The RANGE check of LOAD (R105). -/
def loadOf (f : LoadFields) : Option (Fin 32) := if idOk f.id then fin32 f.slot else none

/-! ### The record checks of SAVE_PLAN (R97) -/

/-- The RANGE check of the request a step acts as (check 2). -/
def stepInRange : PlanStep → Bool
  | .load f => (loadOf f).isSome
  | .config f => (configOf f).isSome
  | .rate f => (rateOf f).isSome
  | .inputs f => inputsOk f
  | .trigger f => (definitionOf f).isSome
  | .enqueue f => (entryOf f).isSome
  | .run m => maskOk m
  | .start m => maskOk m

/-- The segment id a LOAD step creates. -/
def stepLoadId : PlanStep → Option Byte
  | .load f => some f.id
  | _ => none

/-- Check 3 at a step: a LOAD step whose id an earlier LOAD step names. -/
def failsCheck3 (before : List PlanStep) : PlanStep → Bool
  | .load f => before.any (fun p => stepLoadId p = some f.id)
  | _ => false

/-- Check 4 at a step: an ENQUEUE step whose segment id no earlier LOAD step creates. -/
def failsCheck4 (before : List PlanStep) : PlanStep → Bool
  | .enqueue f => !before.any (fun p => stepLoadId p = some f.segment)
  | _ => false

/-- Whether a step is an ENQUEUE on this channel. -/
def stepEnqueuesOn (c : Byte) : PlanStep → Bool
  | .enqueue f => f.channel == c
  | _ => false

/-- Check 5 at a step: a 17th ENQUEUE step on one channel. -/
def failsCheck5 (before : List PlanStep) : PlanStep → Bool
  | .enqueue f => decide (Config.queueDepth ≤ before.countP (stepEnqueuesOn f.channel))
  | _ => false

/-- The channels a START step names. -/
def stepStartMask : PlanStep → Byte
  | .start m => m
  | _ => 0

/-- Check 6 at a step: a START or CONFIG step naming a channel of an earlier START step. -/
def failsCheck6 (before : List PlanStep) : PlanStep → Bool
  | .start m => before.any (fun p => stepStartMask p &&& m ≠ 0)
  | .config f => before.any (fun p => (stepStartMask p).getLsbD f.channel.toNat)
  | _ => false

/-- Index of the first step that fails a check, each step seen with the steps before it. -/
def firstFailing (fails : List PlanStep → PlanStep → Bool) (before : List PlanStep) : List PlanStep → Option Nat
  | [] => none
  | p :: ps => if fails before p then some before.length else firstFailing fails (before ++ [p]) ps

/-- The first failing step (none: the record as a whole) and the number of the check that failed (R97); none when the record
passes. A step code outside the eight fails check 2 at its own index. -/
def planCheck (f : PlanFields) : Option (Option Nat × Nat) :=
  if f.count.toNat = 0 ∨ Config.maxSteps < f.count.toNat ∨ 8 ≤ f.runOn.toNat then some (none, 1)
  else match firstFailing (fun _ p => !stepInRange p) [] f.steps with
  | some i => some (some i, 2)
  | none =>
    if f.rest ≠ [] then some (some f.steps.length, 2)
    else match firstFailing failsCheck3 [] f.steps with
    | some i => some (some i, 3)
    | none => match firstFailing failsCheck4 [] f.steps with
      | some i => some (some i, 4)
      | none => match firstFailing failsCheck5 [] f.steps with
        | some i => some (some i, 5)
        | none => match firstFailing failsCheck6 [] f.steps with
          | some i => some (some i, 6)
          | none => none

end Sys2Proof.Machine
end

