-- ==== Sys2Proof/Machine/Flags.lean ====
section
/-!
DEFINITION. What the SQ4 derives from its fields and reports: states of slots and of the plan area, lock levels, which
channels listen or wait, checks values, counters' saturation.
-/

namespace Sys2Proof.Machine

/-! ### Counters -/

/-- A 16-bit counter that stays at 65535 (R158, R179). -/
def satInc (c : Half) : Half := if c = 65535 then 65535 else c + 1

/-- Passes done after one more pass; with repeat 0 they stay at 65535 (R39). -/
def nextPasses (repeats passes : Nat) : Nat :=
  if repeats = 0 ∧ 65535 ≤ passes then 65535 else passes + 1

/-! ### Slots (R88, R89) -/

/-- Stored states of a slot. -/
inductive Stored where
  | blank | stored | torn
  deriving DecidableEq, Repr

/-- Stored state: TORN while an operation is announced, else the header's state (R88). -/
def Slot.stored (s : Slot) : Stored :=
  match s.operation with
  | .none => match s.content with
    | .blank => .blank
    | .stored => .stored
  | _ => .torn

/-- Effective lock levels (spec 05, "Lock levels"). -/
inductive Effective where
  | unlocked | locked | frozen
  deriving DecidableEq, Repr

/-- FROZEN while the freeze flag is set, else the persistent level. -/
def Slot.effective (s : Slot) : Effective :=
  if s.freeze then .frozen
  else match s.lock with
    | .unlocked => .unlocked
    | .locked => .locked

def Effective.num : Effective → Nat
  | .unlocked => 0
  | .locked => 1
  | .frozen => 2

/-- The job naming a slot. -/
def jobNaming (n : Fin 32) (jobs : List Job) : Option Job := jobs.find? (fun j => j.work.slot? = some n)

/-- A SAVE_PLAN or CLEAR_PLAN job. -/
def Work.isPlan : Work → Bool
  | .savePlan _ => true
  | .clearPlan => true
  | _ => false

/-- The plan job in the list. -/
def planJob (jobs : List Job) : Option Job := jobs.find? (fun j => j.work.isPlan)

/-- Reported state of a slot: BLANK 0, STORED 1, TORN 2, WRITING 3 while an ACTIVE SAVE names it, ERASING 4 while an ACTIVE
or SUSPENDED ERASE names it (R89). -/
def reportedSlot (n : Fin 32) (slot : Slot) (jobs : List Job) : Nat :=
  let base := match slot.stored with
    | .blank => 0
    | .stored => 1
    | .torn => 2
  match jobNaming n jobs with
  | some j => match j.work, j.state with
    | .save .., .active => 3
    | .erase .., .active => 4
    | .erase .., .suspended => 4
    | _, _ => base
  | none => base

/-- Stored state of the plan area (R96). -/
def PlanArea.stored (p : PlanArea) : PlanState :=
  match p.operation with
  | .none => match p.record with
    | some _ => .stored
    | none => .none
  | _ => .torn

/-- Reported state of the plan area: NONE 0, STORED 1, TORN 2, WRITING 3, ERASING 4 (R96). -/
def reportedPlan (p : PlanArea) (jobs : List Job) : Nat :=
  match planJob jobs with
  | some j => match j.work, j.state with
    | .savePlan _, .active => 3
    | .clearPlan, .active => 4
    | _, _ => p.stored.num
  | none => p.stored.num

/-- Slots in this stored state (R129). -/
def countSlots (st : Stored) (slots : Vector Slot 32) : Nat := slots.toList.countP (fun s => s.stored = st)

/-! ### Channels -/

/-- A running state: any but STOPPED (spec 02, "Channel states"). -/
def Channel.isRunning (c : Channel) : Bool := c.state ≠ .stopped

/-- The head is started exactly when the channel is PLAYING or STARVED (R27). -/
def Channel.headStarted (c : Channel) : Bool := c.state = .playing || c.state = .starved

/-- The active generator that head evaluation fixes from the head (R28). -/
def generatorFor (defaultGen : Fin 4) : List Entry → Fin 4
  | [] => defaultGen
  | e :: _ => e.generator.getD defaultGen

/-- The channel plays on this generator in a running state (R60). -/
def Channel.playsOn (c : Channel) (g : Fin 4) : Bool := c.isRunning && c.activeGen = g

/-- The channel holds a pending pulse naming this generator (R60). -/
def Channel.pulsesOn (c : Channel) (g : Fin 4) : Bool := c.m0.pulse = some g || c.m1.pulse = some g

/-- The trigger a WAITING channel waits on. -/
def Channel.waitsOn (c : Channel) : Option (Fin 8) :=
  match c.state, c.queue with
  | .waiting, e :: _ => match e.start with
    | .onTrigger t => some t
    | .immediate => none
  | _, _ => none

/-- The until trigger of a started head. -/
def Channel.untilOf (c : Channel) : Option (Fin 8) :=
  match c.queue with
  | e :: _ => if c.headStarted then e.untilTrig else none
  | [] => none

/-! ### Store check value (R90) -/

/-- One bit of the CRC-32, least significant bit first (polynomial 04C11DB7h reflected). -/
def crc32Bit (c : Word) : Word := if c.getLsbD 0 then (c >>> 1) ^^^ 0xEDB88320#32 else c >>> 1

/-- The CRC-32 after one more byte. -/
def crc32Byte (c : Word) (b : Byte) : Word :=
  crc32Bit (crc32Bit (crc32Bit (crc32Bit (crc32Bit (crc32Bit (crc32Bit (crc32Bit (c ^^^ b.setWidth 32))))))))

/-- CRC-32: initial value FFFFFFFFh, final remainder complemented (R90). -/
def crc32 (bs : List Byte) : Word := ~~~(bs.foldl crc32Byte 0xFFFFFFFF#32)

/-- The check value: over the length, the samples, the mark count and the marks (R90). -/
def checkValue (length : Nat) (samples : List Sample) (marks : List Mark) : Word :=
  crc32 (u16 length ++ samplesBytes samples ++ u8 marks.length ++ marksBytes marks)

/-! ### Jobs -/

/-- Nominal work of a job at acceptance (R108); `blocks` is the block count of a SAVE's or LOAD's segment. -/
def Work.duration (blocks : Nat) : Work → Nat
  | .save .. => Config.saveTime blocks
  | .load .. => Config.loadTime blocks
  | .erase .. => Config.eraseTime
  | .setLock .. => Config.setLockTime
  | .savePlan .. => Config.savePlanTime
  | .clearPlan => Config.clearPlanTime

/-- A job whose origin is a request. -/
def JobOrigin.isRequest : JobOrigin → Bool
  | .request _ _ => true
  | .plan => false

/-- The request tag of a job, 0 when its origin is not a request (R176). -/
def JobOrigin.tag : JobOrigin → Byte
  | .request t _ => t
  | .plan => 0

/-- A job is ACTIVE. -/
def Job.isActive (j : Job) : Bool := j.state = .active

/-- A job is SUSPENDED. -/
def Job.isSuspended (j : Job) : Bool := j.state = .suspended

/-- A QUEUED LOAD. -/
def Job.isQueuedLoad (j : Job) : Bool :=
  match j.work, j.state with
  | .load .., .queued => true
  | _, _ => false

/-- A QUEUED job. -/
def Job.isQueued (j : Job) : Bool := j.state = .queued

/-! ### Notices -/

/-- A NEW record. -/
def Notice.isNew (r : Notice) : Bool := r.state = .new

/-- A SENT record. -/
def Notice.isSent (r : Notice) : Bool :=
  match r.state with
  | .sent _ => true
  | _ => false

/-- A SENT-RESEND record. -/
def Notice.isResend (r : Notice) : Bool :=
  match r.state with
  | .resend _ => true
  | _ => false

/-- The sequence number a record carries. -/
def Notice.seq? (r : Notice) : Option Byte :=
  match r.state with
  | .new => none
  | .sent n => some n
  | .resend n => some n

end Sys2Proof.Machine
end

