-- ==== Sys2Proof/Machine/Ops.lean ====
section
/-!
DEFINITION. The shared operations: sample memory, segment map and references, producing notices, placing replies, the
arbiter of the transmitter, and the gate every event passes.
-/

namespace Sys2Proof.Machine

/-! ### Lists -/

/-- Changes the first element that passes the test. -/
def modifyFirst {α : Type} (p : α → Bool) (f : α → α) : List α → List α
  | [] => []
  | x :: xs => if p x then f x :: xs else x :: modifyFirst p f xs

/-- Runs an operation for each element in list order. -/
def forEach {α : Type} (f : α → State → State) : List α → State → State
  | [], s => s
  | x :: xs, s => forEach f xs (f x s)

/-- All channels, in rising number. -/
def allChannels : List (Fin 4) := [0, 1, 2, 3]

/-! ### Sample memory (R1) -/

/-- The byte at an address; an address not listed reads 0 (notes/assumptions/3.md). -/
def readByte : Memory → Nat → Byte
  | [], _ => 0
  | (b, x) :: m, a => if a = b then x else readByte m a

/-- Writes a byte, keeping the canonical form: the list stays sorted and holds no 0. -/
def writeByte : Memory → Nat → Byte → Memory
  | [], a, v => if v = 0 then [] else [(a, v)]
  | (b, x) :: m, a, v =>
    if a < b then (if v = 0 then (b, x) :: m else (a, v) :: (b, x) :: m)
    else if a = b then (if v = 0 then m else (a, v) :: m)
    else (b, x) :: writeByte m a v

/-- The canonical form: addresses rise, no cell is 0. -/
def Memory.wf (m : Memory) : Bool := decide (m.Pairwise (fun c d => c.1 < d.1)) && m.all (fun c => c.2 != 0)

/-- Byte address of the low byte of sample position `p` of a segment with this block list: block ⌊p/64⌋, offset p mod 64
(R1; notes/assumptions/2.md). -/
def sampleAddr (blocks : List Nat) (p : Nat) : Nat :=
  2 * (Config.blockSamples * blocks.getD (p / Config.blockSamples) 0 + p % Config.blockSamples)

/-- The sample at a position. -/
def readSample (m : Memory) (blocks : List Nat) (p : Nat) : Sample :=
  half (readByte m (sampleAddr blocks p)) (readByte m (sampleAddr blocks p + 1))

/-- Writes one sample. -/
def writeSample (m : Memory) (blocks : List Nat) (p : Nat) (x : Sample) : Memory :=
  writeByte (writeByte m (sampleAddr blocks p) (loByte x)) (sampleAddr blocks p + 1) (hiByte x)

/-- Writes samples at positions `p` onward. -/
def writeRun (blocks : List Nat) : Nat → List Sample → Memory → Memory
  | _, [], m => m
  | p, x :: xs, m => writeRun blocks (p + 1) xs (writeSample m blocks p x)

/-- All samples of a segment, in position order. -/
def segSamples (m : Memory) (g : Segment) : List Sample := (List.range g.length).map (readSample m g.blocks)

/-! ### Blocks of the part -/

/-- Channel `c`. -/
def State.channel (s : State) (c : Fin 4) : Channel := s.channels[c]

/-- Puts channel `c`. -/
def State.setChannel (s : State) (c : Fin 4) (ch : Channel) : State := { s with channels := s.channels.set c ch }

/-- Changes channel `c`. -/
def State.modChannel (s : State) (c : Fin 4) (f : Channel → Channel) : State := s.setChannel c (f (s.channel c))

/-- Generator `g`. -/
def State.generator (s : State) (g : Fin 4) : Generator := s.generators[g]

/-- Puts generator `g`. -/
def State.setGenerator (s : State) (g : Fin 4) (x : Generator) : State := { s with generators := s.generators.set g x }

/-- Trigger `t`. -/
def State.trigger (s : State) (t : Fin 8) : Trigger := s.trig.triggers[t]

/-- Puts trigger `t`. -/
def State.setTrigger (s : State) (t : Fin 8) (x : Trigger) : State :=
  { s with trig := { s.trig with triggers := s.trig.triggers.set t x } }

/-- Slot `n`. -/
def State.slot (s : State) (n : Fin 32) : Slot := s.store.slots[n]

/-- Puts slot `n`. -/
def State.setSlot (s : State) (n : Fin 32) (x : Slot) : State :=
  { s with store := { s.store with slots := s.store.slots.set n x } }

/-- Changes the link counters. -/
def State.count (s : State) (f : Counters → Counters) : State :=
  { s with link := { s.link with counters := f s.link.counters } }

/-- Puts the receiver and its gap timer. -/
def State.setReceiver (s : State) (r : Receiver) (gap : Timer) : State :=
  { s with link := { s.link with receiver := r, gap := gap } }

/-! ### Notices (R179) -/

/-- Whether a kind is in the enable set. -/
def Notices.enabled (q : Notices) (k : NoticeKind) : Bool := q.enable.getLsbD (k.num - 1)

/-- A NEW record of this kind and source. -/
def Notice.mergesWith (k : NoticeKind) (src : Source) (r : Notice) : Bool := r.isNew && r.kind = k && r.source = src

/-- A notice is handed to the queue: dropped when disabled, merged into the NEW record of its pair, appended, or lost and
counted (R179). -/
def Notices.produce (k : NoticeKind) (src : Source) (detail : List Byte) (q : Notices) : Notices :=
  if !q.enabled k then q
  else if q.records.any (Notice.mergesWith k src) then
    { q with records := modifyFirst (Notice.mergesWith k src)
               (fun r => { r with count := satInc r.count, detail := detail }) q.records }
  else if q.records.length < Config.maxNotices then
    { q with records := q.records ++ [⟨k, src, detail, 1, .new⟩] }
  else { q with tally := satInc q.tally, total := satInc q.total }

/-- A block produces a notice. -/
def State.notify (k : NoticeKind) (src : Source) (detail : List Byte) (s : State) : State :=
  { s with notices := s.notices.produce k src detail }

/-! ### The segment map and references (R4, R12, R13) -/

/-- The record under an id. -/
def State.segment? (s : State) (id : Byte) : Option Segment := s.pool.map.find? (fun g => g.id = id)

/-- Puts a new record into the map, which is kept in rising order of id. -/
def insertSegment (g : Segment) : List Segment → List Segment
  | [] => [g]
  | x :: xs => if g.id.toNat < x.id.toNat then g :: x :: xs else x :: insertSegment g xs

/-- Changes the record under an id. -/
def State.modSegment (s : State) (id : Byte) (f : Segment → Segment) : State :=
  { s with pool := { s.pool with map := modifyFirst (fun g => g.id = id) f s.pool.map } }

/-- Takes the blocks of a new segment from the head of the free list and enters its record (R2, R17, R24). -/
def State.createSegment (s : State) (id : Byte) (st : SegState) (length : Nat) (marks : List Mark) (refs : Nat)
    (origin : Origin) : State :=
  { s with pool := { s.pool with
      free := s.pool.free.drop (blocksFor length)
      map := insertSegment
        { id := id, state := st, length := length, fill := 0, blocks := s.pool.free.take (blocksFor length),
          marks := marks, refs := refs, retiring := false, origin := origin } s.pool.map } }

/-- The blocks go to the tail of the free list and the record leaves the map; a SEGMENT_FREED notice is produced unless a
DELETE_SEGMENT with refs 0 frees the segment (R13). -/
def State.freeSegment (s : State) (g : Segment) (noticed : Bool) : State :=
  let s1 := { s with pool := { s.pool with
    free := s.pool.free ++ g.blocks
    map := s.pool.map.eraseP (fun x => x.id = g.id) } }
  if noticed then s1.notify .segmentFreed (.segment g.id) (u8 g.state.num ++ u8 g.origin.num) else s1

/-- Takes a reference (R11). -/
def State.takeRef (s : State) (id : Byte) : State := s.modSegment id (fun g => { g with refs := g.refs + 1 })

/-- Releases a reference; at 0 a retiring or FAILED segment is freed in the same release (R12). -/
def State.releaseRef (s : State) (id : Byte) : State :=
  match s.segment? id with
  | none => s
  | some g =>
    if g.refs - 1 = 0 ∧ (g.retiring = true ∨ g.state = .failed) then s.freeSegment { g with refs := g.refs - 1 } true
    else s.modSegment id (fun g => { g with refs := g.refs - 1 })

/-! ### The Request Table (R160–R171) -/

/-- The part is STARTING. -/
def State.isStarting (s : State) : Bool := s.startup.phase ≠ .ready

/-- A non-orphaned entry under this tag. -/
def Pending.holds (tag : Byte) (e : Pending) : Bool := e.tag = tag && !e.orphaned

/-- Whether the transmitter is sending a refusal record. -/
def Transmitter.refusals : Transmitter → Nat
  | .reply (.refusal _ _ _) _ => 1
  | _ => 0

/-- A refusal record. -/
def LineItem.isRefusal : LineItem → Bool
  | .refusal _ _ _ => true
  | .reply _ _ _ _ => false

/-- Refusal records in use: those on the line and the one in transmission (R166). -/
def State.refusalsUsed (s : State) : Nat := s.table.line.countP LineItem.isRefusal + s.link.tx.refusals

/-- A frame fails a generic check: a refusal record at the tail of the line, or dropped and counted (R166). -/
def State.refuse (s : State) (tag code : Byte) (st : Status) : State :=
  if s.refusalsUsed < Config.maxRefusals then
    { s with table := { s.table with line := s.table.line ++ [.refusal tag code st] } }
  else s.count (fun c => { c with refusalsDropped := satInc c.refusalsDropped })

/-- A pending entry for a request taken (R167). -/
def State.openEntry (s : State) (tag code : Byte) : State :=
  { s with table := { s.table with entries := s.table.entries ++ [⟨tag, code, .awaiting, false⟩] } }

/-- The reply of the entry under this tag goes to the tail of the reply line and the entry becomes QUEUED (R168, R169). -/
def State.placeReply (s : State) (tag code : Byte) (st : Status) (data : List Byte) : State :=
  { s with table :=
      { entries := modifyFirst (Pending.holds tag) (fun e => { e with state := .queued }) s.table.entries
        line := s.table.line ++ [.reply tag code st data] } }

/-- An orphaned entry of a job with this tag and code. -/
def Pending.isOrphan (tag code : Byte) (e : Pending) : Bool := e.tag = tag && e.code = code && e.orphaned

/-- A job's outcome is handed to its origin when that is a request: placed as the deferred reply, or discarded with an
orphaned entry (R104, R169, R171). The outcome of a plan step goes to the Start-up Controller. -/
def State.handReply (s : State) (origin : JobOrigin) (code : Byte) (st : Status) (data : List Byte) : State :=
  match origin with
  | .request tag false => s.placeReply tag code st data
  | .request tag true => { s with table := { s.table with entries := s.table.entries.eraseP (Pending.isOrphan tag code) } }
  | .plan => s

/-! ### The transmitter and its arbiter (R154–R156, R183, R184) -/

/-- The record the queue offers (R183). -/
def Notices.offer (q : Notices) : Option Notice :=
  if q.window = 0 then none
  else match q.records.find? Notice.isResend with
  | some r => some r
  | none => if q.records.countP Notice.isSent < q.window then q.records.find? Notice.isNew else none

/-- KIND, TAG and BODY of a reply-line item's frame (R155, R173). -/
def LineItem.content : LineItem → List Byte
  | .reply tag code st data => kindReply :: tag :: code :: st.code :: data
  | .refusal tag code st => [kindReply, tag, code, st.code]

/-- The oldest item leaves the line; its entry becomes SENDING and its frame is fixed (R155, R170). -/
def State.beginReply (s : State) (item : LineItem) (rest : List LineItem) : State :=
  { s with
    table :=
      { entries := match item with
          | .reply tag _ _ _ => modifyFirst (Pending.holds tag) (fun e => { e with state := .sending }) s.table.entries
          | .refusal _ _ _ => s.table.entries
        line := rest }
    link := { s.link with tx := .reply item (frame item.content) } }

/-- A stopped timer starts; a running one runs on. -/
def Timer.startIfStopped : Timer → Timer
  | .stopped => .running 0
  | t => t

/-- The transmission of the offered record begins: a NEW record takes the next sequence number and starts a stopped timer; a
SENT-RESEND record keeps its number and restarts the timer; either becomes SENT (R184). -/
def State.beginNotice (s : State) (r : Notice) : State :=
  match r.state with
  | .new =>
    { s with
      notices := { s.notices with
        records := modifyFirst Notice.isNew (fun x => { x with state := .sent s.notices.nextSeq }) s.notices.records
        nextSeq := s.notices.nextSeq + 1
        timer := s.notices.timer.startIfStopped }
      link := { s.link with
        tx := .notice s.notices.nextSeq (frame (kindNotice :: s.notices.nextSeq :: r.body)) } }
  | .resend n =>
    { s with
      notices := { s.notices with
        records := modifyFirst Notice.isResend (fun x => { x with state := .sent n }) s.notices.records
        timer := .running 0 }
      link := { s.link with tx := .notice n (frame (kindNotice :: n :: r.body)) } }
  | .sent _ => s

/-- The arbiter's choice when the transmitter is free: the oldest item of the reply line, else the offered notice (R154). -/
def State.arbitrate (s : State) : State :=
  match s.link.tx with
  | .free =>
    match s.table.line with
    | item :: rest => s.beginReply item rest
    | [] =>
      match s.notices.offer with
      | some r => s.beginNotice r
      | none => s
  | _ => s

/-! ### Events -/

/-- The part works: it is powered and RESETn is high (R127). -/
def State.alive (s : State) : Bool := s.powered && !s.resetnLow

/-- An event of a working part; the arbiter chooses at its end (R154). A part held in reset or without power takes none.
DESIGN CHOICE: so an expiry or a break that finds the transmitter free and the reply line empty begins to resend the oldest numbered
record in its own event, and an acknowledgement of that record taken next is valid, not unknown as R190 has it
(notes/assumptions/40.md). -/
def State.event (s : State) (f : State → State) : State := if s.alive then (f s).arbitrate else s

/-- LINK_FAULT with a fault number and that fault's counter after the increment (R150). -/
def State.linkFault (s : State) (fault : Nat) (counter : Half) : State :=
  s.notify .linkFault .link (u8 fault ++ u16 counter.toNat)

end Sys2Proof.Machine
end

