-- ==== Sys2Proof/Machine/Table.lean ====
section
/-!
DEFINITION. The Request Table: the generic checks and the taking of a request (spec 09, R161–R169).
-/

namespace Sys2Proof.Machine

/-- What an owner gives the table in the taking event (R167): a status and data to be placed at once, or no reply yet (a
store request accepted as a job). -/
inductive Owned where
  | reply (s : State) (status : Status) (data : List Byte)
  | deferred (s : State)

/-- An owner's refusal: no state changes (R167). -/
def Owned.refused (s : State) (st : Status) : Owned := .reply s st []

/-- Generic checks 3 to 5, for a frame that passed checks 1 and 2 (R163–R165). -/
def genericCheck (tag : Byte) (exempt : Bool) (s : State) : Option Status :=
  if s.table.entries.any (Pending.holds tag) then some .tagInUse
  else if Config.maxEntries ≤ s.table.entries.length then some .tableFull
  else if s.isStarting && !exempt then some .starting
  else none

/-- The table places the reply an owner gave, or leaves the entry AWAITING (R168, R169). -/
def placeOwned (tag code : Byte) : Owned → State
  | .reply s st data => s.placeReply tag code st data
  | .deferred s => s

/-- A request frame at its dispatch (R161, R167): refused by a record, or taken under an entry and handed to its owner. -/
def takeRequest {α : Type} (tag code : Byte) (exempt : Bool) (body : Body α) (owner : α → State → Owned) (s : State) :
    State :=
  match body with
  | .malformed _ => s.refuse tag code .badFormat
  | .fields f =>
    match genericCheck tag exempt s with
    | some st => s.refuse tag code st
    | none => placeOwned tag code (owner f (s.openEntry tag code))

/-- A request frame with an empty body or an unknown code (checks 1 and 2, R162). -/
def refuseUnknown (tag : Byte) (body : List Byte) (s : State) : State :=
  match body with
  | [] => s.refuse tag 0 .badFormat
  | code :: _ => s.refuse tag code .unknownRequest

end Sys2Proof.Machine
end

