-- ==== Sys2Proof/Machine/Channels.lean ====
section
/-!
DEFINITION. The channel players: head evaluation, skips, completion, ticks, firings at the channel, reports from the pool,
and the channel requests (spec 02).
-/

namespace Sys2Proof.Machine

/-! ### Head evaluation (R29–R34, R43) -/

/-- Entering STOPPED (R29). -/
def State.enterStopped (s : State) (c : Fin 4) : State :=
  s.modChannel c (fun ch => { ch with
    state := .stopped, output := ch.restCode, m0 := .low, m1 := .low, activeGen := ch.defaultGen })

/-- Entering DRAINED, with its notice (R34). -/
def State.enterDrained (s : State) (c : Fin 4) : State :=
  (s.modChannel c (fun ch => { ch with state := .drained, activeGen := ch.defaultGen })).notify .drained (.channel c)
    (u32 (s.channel c).counter.toNat)

/-- Entering WAITING (R32). -/
def State.enterWaiting (s : State) (c : Fin 4) : State := s.modChannel c (fun ch => { ch with state := .waiting })

/-- The state of the segment that a head sees when its start condition is met; none when the head is to be skipped: the
segment is FAILED (R31). A missing record cannot occur (notes/assumptions/24.md). -/
def State.playable (s : State) (id : Byte) : Option SegState :=
  match s.segment? id with
  | some g => if g.state = .failed then none else some g.state
  | none => none

/-- An entry as its start condition is met (R31). -/
def Entry.begun (e : Entry) : Entry :=
  { e with started := true, passes := 0, cursor := 0, released := false, stopPending := false }

/-- A head whose start condition is met goes to PLAYING on a READY segment, else to STARVED with its notice (R31, R33). -/
def State.enterStarted (s : State) (c : Fin 4) (e : Entry) (rest : List Entry) (st : SegState) : State :=
  match st with
  | .ready => s.modChannel c (fun ch => { ch with state := .playing, queue := e.begun :: rest })
  | _ =>
    (s.modChannel c (fun ch => { ch with state := .starved, queue := e.begun :: rest })).notify .starved (.channel c)
      (e.segment :: u8 st.num)

/-- The removal of a skipped head: the entry leaves, its reference is released, ENTRY_SKIPPED is produced (R43). -/
def State.dropHead (s : State) (c : Fin 4) (e : Entry) (rest : List Entry) : State :=
  ((s.modChannel c (fun ch => { ch with queue := rest })).releaseRef e.segment).notify .entrySkipped (.channel c)
    [e.segment]

/-- Head evaluation over a queue (R30): fixes the active generator and ends in DRAINED, WAITING, PLAYING or STARVED, skipping
IMMEDIATE heads on FAILED segments on the way. -/
def State.evalQueue (c : Fin 4) : List Entry → State → State
  | [], s => s.enterDrained c
  | e :: rest, s =>
    let s1 := s.modChannel c (fun ch => { ch with activeGen := e.generator.getD ch.defaultGen })
    match e.start with
    | .onTrigger _ => s1.enterWaiting c
    | .immediate =>
      match s1.playable e.segment with
      | some st => s1.enterStarted c e rest st
      | none => State.evalQueue c rest (s1.dropHead c e rest)

/-- Head evaluation of channel `c` (R30). -/
def State.evaluateHead (s : State) (c : Fin 4) : State := State.evalQueue c (s.channel c).queue s

/-- The skip of a head: removal, then head evaluation again (R43). -/
def State.skipHead (s : State) (c : Fin 4) (e : Entry) (rest : List Entry) : State :=
  State.evalQueue c rest (s.dropHead c e rest)

/-- The start condition of a WAITING head is met (R31, R32). -/
def State.meetStart (s : State) (c : Fin 4) (e : Entry) (rest : List Entry) : State :=
  match s.playable e.segment with
  | some st => s.enterStarted c e rest st
  | none => s.skipHead c e rest

/-! ### Reports from the pool (R15, R16) -/

/-- The READY report at one channel. -/
def State.readyReport (id : Byte) (c : Fin 4) (s : State) : State :=
  match (s.channel c).state, (s.channel c).queue with
  | .starved, e :: _ => if e.segment = id then s.modChannel c (fun ch => { ch with state := .playing }) else s
  | _, _ => s

/-- The FAILED report at one channel. -/
def State.failedReport (id : Byte) (c : Fin 4) (s : State) : State :=
  match (s.channel c).state, (s.channel c).queue with
  | .starved, e :: rest => if e.segment = id then s.skipHead c e rest else s
  | _, _ => s

/-! ### Firings (R44, R76–R80) -/

/-- The tick in whose event a fire mark fires: generator and tick number. -/
abbrev TickContext := Option (Fin 4 × Word)

/-- Changes the head of a queue. -/
def setHead (f : Entry → Entry) : List Entry → List Entry
  | [] => []
  | e :: rest => f e :: rest

/-- A delivery from `g` to `c` of a tick not made after tick `n`; tick counts return to 0, so the distance decides. -/
def Delivery.notAfter (g c : Fin 4) (n : Word) (d : Delivery) : Bool :=
  d.gen = g && d.chan = c && decide ((n - d.tick).toNat < 2147483648)

/-- A channel that a firing made in tick `n` of its own active generator has started emits at the tick after `n`: the
deliveries in flight of `n` and of earlier ticks emit nothing for this head (R42; notes/assumptions/10.md). -/
def State.holdBack (s : State) (ctx : TickContext) (c : Fin 4) : State :=
  match ctx with
  | none => s
  | some (g, n) =>
    if (s.channel c).headStarted ∧ (s.channel c).activeGen = g then
      s.modChannel c (fun ch => { ch with
        queue := setHead (fun e => { e with spent := s.deliveries.countP (Delivery.notAfter g c n) }) ch.queue })
    else s

/-- A channel takes a firing of trigger `t` (R44). -/
def State.takeFiring (t : Fin 8) (ctx : TickContext) (c : Fin 4) (s : State) : State :=
  if (s.channel c).waitsOn = some t then
    match (s.channel c).queue with
    | e :: rest => (s.meetStart c e rest).holdBack ctx c
    | [] => s
  else if (s.channel c).untilOf = some t then
    s.modChannel c (fun ch => { ch with queue := setHead (fun e => { e with released := true }) ch.queue })
  else s

/-- A firing of trigger `t` (R76): fire count, captured levels, delivery to the four channels, TRIGGER_FIRED. -/
def State.fireTrigger (t : Fin 8) (ctx : TickContext) (s : State) : State :=
  let tr := { s.trigger t with fires := (s.trigger t).fires + 1, captured := s.trig.confirmed }
  let s1 := forEach (State.takeFiring t ctx) allChannels (s.setTrigger t tr)
  if tr.notify then s1.notify .triggerFired (.trigger t) (tr.captured :: u32 tr.fires.toNat) else s1

/-- A soft firing by a fire mark: nothing when the trigger is OFF (R38, R78). -/
def State.markFiring (t : Fin 8) (ctx : TickContext) (s : State) : State :=
  if (s.trigger t).mode = .off then s else s.fireTrigger t ctx

/-! ### Playing (R35–R41) -/

/-- A pending pulse of generator `g` ends: the line goes low (R37). -/
def MarkerLine.endPulse (g : Fin 4) (l : MarkerLine) : MarkerLine := if l.pulse = some g then .low else l

/-- A mark's action on its line, with the active generator of the tick (R36, R37). -/
def MarkerLine.act (g : Fin 4) (l : MarkerLine) : MarkAction → MarkerLine
  | .none => l
  | .set => ⟨true, none⟩
  | .clear => ⟨false, none⟩
  | .toggle => ⟨!l.level, none⟩
  | .pulse => ⟨true, some g⟩

/-- A mark acts on the channel that emits its sample. -/
def Channel.mark (g : Fin 4) (m : Mark) (ch : Channel) : Channel :=
  match m.line with
  | .m0 => { ch with m0 := ch.m0.act g m.action }
  | .m1 => { ch with m1 := ch.m1.act g m.action }

/-- One mark at the emitted position: its action, then its soft firing (R36, R38). -/
def State.applyMark (c : Fin 4) (g : Fin 4) (n : Word) (m : Mark) (s : State) : State :=
  let s1 := s.modChannel c (Channel.mark g m)
  match m.fire with
  | some t => s1.markFiring t (some (g, n))
  | none => s1

/-- The end action of a completed entry, where playing does not go straight on (R41). -/
def State.endAction (s : State) (c : Fin 4) (a : EndAction) : State :=
  match a with
  | .hold => s
  | .rest => if (s.channel c).state = .playing then s else s.modChannel c (fun ch => { ch with output := ch.restCode })

/-- ENTRY_DONE of an entry with notify yes (R40). -/
def State.entryDone (s : State) (c : Fin 4) (e : Entry) : State :=
  if e.notify then s.notify .entryDone (.channel c) (e.segment :: u16 e.passes) else s

/-- Completion of the head (R40): ENTRY_DONE, removal with release, then STOPPED or head evaluation and the end action. -/
def State.completeHead (s : State) (c : Fin 4) (e : Entry) (rest : List Entry) : State :=
  let s1 := ((s.entryDone c e).modChannel c (fun ch => { ch with queue := rest })).releaseRef e.segment
  if e.stopPending then s1.enterStopped c else (s1.evaluateHead c).endAction c e.endAction

/-- Whether an entry completes at a pass end, after `passes` passes (R39). -/
def Entry.completes (e : Entry) (passes : Nat) : Bool :=
  decide (0 < e.repeats ∧ passes = e.repeats) || e.released || e.stopPending

/-- The end of a pass (R39). -/
def State.passEnd (s : State) (c : Fin 4) (e : Entry) (rest : List Entry) : State :=
  let p := nextPasses e.repeats e.passes
  if e.completes p then s.completeHead c { e with passes := p } rest
  else s.modChannel c (fun ch => { ch with queue := { e with passes := p, cursor := 0 } :: rest })

/-- Steps 4 to 6 of a tick: the counter, the cursor, and the pass end when the cursor reaches the length (R35). -/
def State.advance (s : State) (c : Fin 4) (length : Nat) : State :=
  match (s.channel c).queue with
  | e :: rest =>
    let e1 := { e with cursor := e.cursor + 1 }
    let s1 := s.modChannel c (fun ch => { ch with counter := ch.counter + 1, queue := e1 :: rest })
    if e1.cursor = length then s1.passEnd c e1 rest else s1
  | [] => s

/-- The instants at which the channel of `d` has emitted, once it emits at `d`: that of `d`, the later ones, and those of which a
delivery to it is in flight; no other can come again (R61; notes/assumptions/35.md). -/
def State.emittedWith (s : State) (d : Delivery) : List Nat :=
  d.instant :: (s.channel d.chan).emittedAt.filter
    (fun i => decide (d.instant < i ∨ ∃ x ∈ s.deliveries, x.chan = d.chan ∧ x.instant = i))

/-- Steps 2 to 6 of a tick in PLAYING: the sample at the cursor, its marks in list order, then `advance` (R35). -/
def State.emit (s : State) (d : Delivery) : State :=
  match (s.channel d.chan).queue with
  | e :: _ =>
    match s.segment? e.segment with
    | some seg =>
      let s1 := s.modChannel d.chan (fun ch =>
        { ch with output := readSample s.pool.mem seg.blocks e.cursor, emittedAt := s.emittedWith d })
      (forEach (State.applyMark d.chan d.gen d.tick) (seg.marks.filter (fun m => m.position = e.cursor)) s1).advance d.chan
        seg.length
    | none => s
  | [] => s

/-- The head lets a tick of its active generator pass without a sample (R42). -/
def Channel.holds (g : Fin 4) (ch : Channel) : Bool :=
  ch.activeGen = g && match ch.queue with
    | e :: _ => decide (0 < e.spent)
    | [] => false

/-- A tick of `g` passes a head that holds it back. -/
def Channel.letPass (g : Fin 4) (ch : Channel) : Channel :=
  if ch.holds g then { ch with queue := setHead (fun e => { e with spent := e.spent - 1 }) ch.queue } else ch

/-- Whether a channel emits at a delivery: it plays on the delivery's generator, has not emitted since its START at another tick of
the same instant (R61), and its head does not let the tick pass (R42). -/
def Channel.emitsAt (d : Delivery) (ch : Channel) : Bool :=
  decide (ch.state = .playing ∧ ch.activeGen = d.gen) && decide (d.instant ∉ ch.emittedAt) && !ch.holds d.gen

/-- A channel takes a delivery (R28, R35, R37, R42, R61). DESIGN CHOICE: where a tick completes a head and moves the channel to
another generator, a tick of that one which is made at the same instant and taken after it emits nothing, as R61 says of ticks at
one instant; a tick of any other instant taken after it emits, as R42 says (notes/assumptions/35.md). -/
def State.takeTick (s : State) (d : Delivery) : State :=
  let s1 := s.modChannel d.chan (fun ch =>
    { ch.letPass d.gen with m0 := ch.m0.endPulse d.gen, m1 := ch.m1.endPulse d.gen })
  if (s.channel d.chan).emitsAt d then s1.emit d else s1

/-! ### Channel requests -/

/-- CONFIGURE_CHANNEL (R26). -/
def ownConfigure (f : ConfigFields) (s : State) : Owned :=
  match configOf f with
  | none => .refused s .range
  | some (c, g) =>
    if (s.channel c).isRunning then .refused s .channelRunning
    else .reply (s.modChannel c (fun ch => { ch with
        defaultGen := g, restCode := f.rest, output := f.rest, activeGen := g }))
      .ok (u8 g.val ++ halfBytes f.rest)

/-- Appends an entry, takes its reference, and evaluates the head of a DRAINED channel (R48). -/
def State.appendEntry (s : State) (c : Fin 4) (e : Entry) : State :=
  let s1 := (s.modChannel c (fun ch => { ch with queue := ch.queue ++ [e] })).takeRef e.segment
  if (s.channel c).state = .drained then s1.evaluateHead c else s1

/-- The checks of ENQUEUE after RANGE, in their order (R47). -/
def enqueueCheck (c : Fin 4) (e : Entry) (s : State) : Option Status :=
  if Config.queueDepth ≤ (s.channel c).queue.length then some .queueFull
  else match s.segment? e.segment with
  | none => some .noSuchSegment
  | some g => if g.state = .failed then some .segmentState else if g.retiring then some .retiring else none

/-- ENQUEUE (R47, R48). The reply's queue length is that after the append (R48): the entries before and the new one, also
where head evaluation then skips it. -/
def ownEnqueue (f : EnqueueFields) (s : State) : Owned :=
  match entryOf f with
  | none => .refused s .range
  | some (c, e) =>
    match enqueueCheck c e s with
    | some st => .refused s st
    | none =>
      let s1 := s.appendEntry c e
      .reply s1 .ok (u8 ((s.channel c).queue.length + 1) ++ u8 (s1.channel c).state.num)

/-- START on one channel: the sample counter becomes 0 and the head is evaluated (R49). DESIGN CHOICE: the channel forgets at which
instants it has emitted, so the new start emits at the next tick it takes, of whatever instant (R42; notes/assumptions/35.md). -/
def State.startChannel (c : Fin 4) (s : State) : State :=
  (s.modChannel c (fun ch => { ch with counter := 0, emittedAt := [] })).evaluateHead c

/-- START as a step of the plan, one event with the steps around it (R49, R132). The START request is `ownStartIn`. -/
def ownStart (mask : Byte) (s : State) : Owned :=
  if !maskOk mask then .refused s .range
  else if (named mask).any (fun c => (s.channel c).isRunning) then .refused s .alreadyRunning
  else
    let s1 := forEach State.startChannel (named mask) s
    .reply s1 .ok ((named mask).flatMap (fun c => u8 (s1.channel c).state.num))

/-- The started head leaves and its reference is released (R50). -/
def State.removeStarted (s : State) (c : Fin 4) : State :=
  match (s.channel c).queue with
  | e :: rest =>
    if (s.channel c).headStarted then (s.modChannel c (fun ch => { ch with queue := rest })).releaseRef e.segment else s
  | [] => s

/-- STOP IMMEDIATE on one channel (R50). -/
def State.stopNow (c : Fin 4) (s : State) : State :=
  if (s.channel c).isRunning then (s.removeStarted c).enterStopped c else s

/-- STOP AT_PASS_END on one channel (R51). -/
def State.stopAtPassEnd (c : Fin 4) (s : State) : State :=
  if (s.channel c).state = .playing then
    s.modChannel c (fun ch => { ch with queue := setHead (fun e => { e with stopPending := true }) ch.queue })
  else s.stopNow c

/-- The reply data of a STOP: for each named channel, head removed and the entries left (R50, R51). -/
def stopData (removed : Channel → Bool) (before after : State) (mask : Byte) : List Byte :=
  (named mask).flatMap (fun c => yesNo (removed (before.channel c)) ++ u8 (after.channel c).queue.length)

/-- STOP with a mode that is not AT_PASS_END (R50): 0 is IMMEDIATE, another is refused RANGE. -/
def ownStopImmediate (f : StopFields) (s : State) : Owned :=
  if !maskOk f.mask || f.mode ≠ 0 then .refused s .range
  else
    let s1 := forEach State.stopNow (named f.mask) s
    .reply s1 .ok (stopData Channel.headStarted s s1 f.mask)

/-- STOP AT_PASS_END (R51). -/
def ownStopAtPassEnd (mask : Byte) (s : State) : Owned :=
  if !maskOk mask then .refused s .range
  else
    let s1 := forEach State.stopAtPassEnd (named mask) s
    .reply s1 .ok (stopData (fun ch => ch.state = .starved) s s1 mask)

/-- RELEASE (R52). -/
def ownRelease (channel : Byte) (s : State) : Owned :=
  match fin4 channel with
  | none => .refused s .range
  | some c =>
    match (s.channel c).queue with
    | [] => .refused s .nothingToRelease
    | e :: _ =>
      if (s.channel c).headStarted then
        .reply (s.modChannel c (fun ch => { ch with queue := setHead (fun x => { x with released := true }) ch.queue }))
          .ok (u16 e.passes ++ u16 e.cursor)
      else .refused s .nothingToRelease

/-- The entries a FLUSH removes: every unstarted entry (R53). -/
def Channel.flushed (ch : Channel) : List Entry := if ch.headStarted then ch.queue.drop 1 else ch.queue

/-- The entries a FLUSH leaves. -/
def Channel.kept (ch : Channel) : List Entry := if ch.headStarted then ch.queue.take 1 else []

/-- The removals of a FLUSH, then head evaluation of a WAITING channel (R53). -/
def State.flush (s : State) (c : Fin 4) : State :=
  let ch := s.channel c
  let s1 := forEach (fun e s => s.releaseRef e.segment) ch.flushed (s.modChannel c (fun x => { x with queue := ch.kept }))
  if ch.state = .waiting then s1.evaluateHead c else s1

/-- FLUSH (R53). -/
def ownFlush (channel : Byte) (s : State) : Owned :=
  match fin4 channel with
  | none => .refused s .range
  | some c =>
    let s1 := s.flush c
    .reply s1 .ok (u8 (s.channel c).flushed.length ++ u8 (s1.channel c).state.num)

/-- The entry fields and the runtime fields of a head (R54). -/
def Entry.report (e : Entry) : List Byte :=
  [e.segment] ++ u16 e.repeats ++ u8 e.start.num ++ optByte (e.untilTrig.map (·.val)) ++ u8 e.endAction.num ++
    optByte (e.generator.map (·.val)) ++ yesNo e.notify ++ u16 e.passes ++ u16 e.cursor ++ yesNo e.released ++
    yesNo e.stopPending

/-- The head's report, nothing when the queue is empty. -/
def headReport : List Entry → List Byte
  | [] => []
  | e :: _ => e.report

/-- The report of a channel (R54). -/
def Channel.report (ch : Channel) : List Byte :=
  u8 ch.defaultGen.val ++ halfBytes ch.restCode ++ u8 ch.state.num ++ u8 ch.activeGen.val ++
    optByte (ch.waitsOn.map (·.val)) ++ u8 ch.queue.length ++
    ch.queue.flatMap (fun e => e.segment :: yesNo e.started) ++ headReport ch.queue ++ halfBytes ch.output ++
    yesNo ch.m0.level ++ yesNo ch.m1.level ++ optByte (ch.m0.pulse.map (·.val)) ++ optByte (ch.m1.pulse.map (·.val)) ++
    u32 ch.counter.toNat

/-- GET_CHANNEL (R54). -/
def ownGetChannel (channel : Byte) (s : State) : Owned :=
  match fin4 channel with
  | none => .refused s .range
  | some c => .reply s .ok (s.channel c).report

end Sys2Proof.Machine
end

