-- ==== Sys2Proof/Machine/Generators.lean ====
section
/-!
DEFINITION. The rate generators: ticks and their deliveries, and the generator requests (spec 03).
-/

namespace Sys2Proof.Machine

/-- Changes generator `g`. -/
def State.modGenerator (s : State) (g : Fin 4) (f : Generator → Generator) : State := s.setGenerator g (f (s.generator g))

/-- The channels that listen to a generator, in rising number (R60). -/
def State.listeners (s : State) (g : Fin 4) : List (Fin 4) :=
  allChannels.filter (fun c => (s.channel c).playsOn g || (s.channel c).pulsesOn g)

/-- The instant of the tick made last. -/
def State.lastInstant (s : State) : Nat := allChannels.foldl (fun i g => max i (s.generator g).tickedAt) 0

/-- The instant of a tick: that of the tick made last, where it is made together with it and its generator has made none at that
instant, else the next one. -/
def State.instantOf (s : State) (m : TickMade) : Nat :=
  if m.together ∧ (s.generator m.generator).tickedAt < s.lastInstant then s.lastInstant else s.lastInstant + 1

/-- A tick of a RUNNING generator: the count, the next period, one delivery to each listener (R59, R60). A HALTED generator
makes none. -/
def State.makeTick (s : State) (m : TickMade) : State :=
  let g := m.generator
  let n := (s.generator g).ticks + 1
  if (s.generator g).running then
    let s1 := s.modGenerator g (fun x => { x with ticks := n, elapsed := 0, tickedAt := s.instantOf m })
    { s1 with deliveries := s1.deliveries ++ (s.listeners g).map (fun c => ⟨g, c, n, s.instantOf m⟩) }
  else s

/-- The delivery a channel takes: the oldest in flight from this generator to it (notes/assumptions/9.md). -/
def Delivery.isTo (c g : Fin 4) (d : Delivery) : Bool := d.gen = g && d.chan = c

/-- A channel takes its delivery of a tick (R35, R60). -/
def State.deliver (s : State) (c g : Fin 4) : State :=
  match s.deliveries.find? (Delivery.isTo c g) with
  | some d => ({ s with deliveries := s.deliveries.eraseP (Delivery.isTo c g) }).takeTick d
  | none => s

/-! ### Generator requests -/

/-- A new divider; a RUNNING generator begins a new period (R62). -/
def Generator.rerate (divider : Nat) (x : Generator) : Generator :=
  if x.running then { x with divider := divider, elapsed := 0 } else { x with divider := divider }

/-- SET_RATE (R62). -/
def ownSetRate (f : RateFields) (s : State) : Owned :=
  match rateOf f with
  | none => .refused s .range
  | some g =>
    .reply (s.modGenerator g (Generator.rerate f.divider.toNat)) .ok
      (u8 g.val ++ u32 f.divider.toNat ++ yesNo (s.generator g).running ++ u32 (s.generator g).ticks.toNat)

/-- A HALTED generator begins its first period; a RUNNING one is left as it is (R64). -/
def State.runGenerator (g : Fin 4) (s : State) : State :=
  s.modGenerator g (fun x => if x.running then x else { x with running := true, elapsed := 0 })

/-- A RUNNING generator enters HALTED; a HALTED one is left as it is (R65). -/
def State.haltGenerator (g : Fin 4) (s : State) : State :=
  s.modGenerator g (fun x => if x.running then { x with running := false, elapsed := 0 } else x)

/-- The named generators that pass a test, as a mask. -/
def State.maskOfNamed (s : State) (mask : Byte) (p : Generator → Bool) : Byte :=
  maskOf (fun g => mask.getLsbD g.val && p (s.generator g))

/-- RUN_RATES (R64). -/
def ownRunRates (mask : Byte) (s : State) : Owned :=
  if !maskOk mask then .refused s .range
  else
    .reply (forEach State.runGenerator (named mask) s) .ok
      [s.maskOfNamed mask (fun x => !x.running), s.maskOfNamed mask (·.running)]

/-- HALT_RATES (R65). DESIGN CHOICE: a delivery of a tick made before the halt stays in flight and acts when the channel takes it,
so a PLAYING channel may emit at it after the halt (R60, R66; notes/assumptions/37.md). -/
def ownHaltRates (mask : Byte) (s : State) : Owned :=
  if !maskOk mask then .refused s .range
  else
    .reply (forEach State.haltGenerator (named mask) s) .ok
      (s.maskOfNamed mask (·.running) :: (named mask).flatMap (fun g => u32 (s.generator g).ticks.toNat))

/-- The report of one generator, with its listeners (R67). -/
def State.generatorReport (s : State) (g : Fin 4) : List Byte :=
  u32 (s.generator g).divider ++ yesNo (s.generator g).running ++ u32 (s.generator g).ticks.toNat ++
    [maskOf (fun c => (s.channel c).playsOn g), maskOf (fun c => (s.channel c).pulsesOn g)]

/-- GET_RATES (R67). -/
def ownGetRates (_ : Unit) (s : State) : Owned := .reply s .ok (allChannels.flatMap s.generatorReport)

end Sys2Proof.Machine
end

