-- ==== Sys2Proof/Machine/Pool.lean ====
section
/-!
DEFINITION. The Segment Pool: the six pool requests, and the failure of a LOADING segment (spec 01).
-/

namespace Sys2Proof.Machine

/-- The READY report to the four channels (R15). -/
def State.reportReady (s : State) (id : Byte) : State := forEach (State.readyReport id) allChannels s

/-- The FAILED report to the four channels (R16). -/
def State.reportFailed (s : State) (id : Byte) : State := forEach (State.failedReport id) allChannels s

/-- The checks of CREATE_SEGMENT after RANGE, in their order (R17). -/
def createCheck (id : Byte) (length : Nat) (s : State) : Option Status :=
  if (s.segment? id).isSome then some .idInUse
  else if Config.mapRecords ≤ s.pool.map.length then some .mapFull
  else if s.pool.free.length < blocksFor length then some .poolFull
  else none

/-- The length and the marks of a CREATE_SEGMENT that passes its RANGE check (R5, R17). -/
def createOf (f : CreateFields) : Option (List Mark) :=
  if idOk f.id && decide (1 ≤ f.length.toNat ∧ f.length.toNat ≤ Config.maxLength) then markList f.length.toNat f.marks
  else none

/-- CREATE_SEGMENT (R17). -/
def ownCreate (f : CreateFields) (s : State) : Owned :=
  match createOf f with
  | none => .refused s .range
  | some marks =>
    match createCheck f.id f.length.toNat s with
    | some st => .refused s st
    | none =>
      let s1 := s.createSegment f.id .filling f.length.toNat marks 0 .host
      .reply s1 .ok (u8 (blocksFor f.length.toNat) ++ u16 s1.pool.free.length)

/-- The record a pool request names: its RANGE and NO_SUCH_SEGMENT checks (R4). -/
def State.named (s : State) (id : Byte) : Except Status Segment :=
  if idOk id then
    match s.segment? id with
    | some g => .ok g
    | none => .error .noSuchSegment
  else .error .range

/-- Writes samples into a segment's blocks from a position on (R1). -/
def State.fillSamples (s : State) (g : Segment) (p : Nat) (xs : List Sample) : State :=
  { s with pool := { s.pool with mem := writeRun g.blocks p xs s.pool.mem } }

/-- WRITE_SAMPLES (R18). -/
def ownWrite (f : WriteFields) (s : State) : Owned :=
  match s.named f.id with
  | .error st => .refused s st
  | .ok g =>
    if g.state ≠ .filling then .refused s .segmentState
    else if f.offset.toNat ≠ g.fill then .refused s .outOfOrder
    else if g.length < f.offset.toNat + f.samples.length then .refused s .range
    else
      .reply ((s.fillSamples g g.fill f.samples).modSegment f.id
        (fun x => { x with fill := x.fill + f.samples.length })) .ok (u16 (g.fill + f.samples.length))

/-- SEAL_SEGMENT (R19). -/
def ownSeal (id : Byte) (s : State) : Owned :=
  match s.named id with
  | .error st => .refused s st
  | .ok g =>
    if g.state ≠ .filling then .refused s .segmentState
    else if g.fill < g.length then .reply s .outOfOrder (u16 g.fill ++ u16 g.length)
    else
      .reply ((s.modSegment id (fun x => { x with state := .ready })).reportReady id) .ok (u16 g.fill ++ u16 g.length)

/-- The deletion of a segment with references: a FILLING one becomes FAILED and retiring with its report, another retiring
(R20). -/
def State.retire (s : State) (g : Segment) : State :=
  match g.state with
  | .filling => (s.modSegment g.id (fun x => { x with state := .failed, retiring := true })).reportFailed g.id
  | _ => s.modSegment g.id (fun x => { x with retiring := true })

/-- DELETE_SEGMENT (R20). The disposition is FREED 0 or RETIRED 1 (notes/assumptions/17.md). -/
def ownDelete (id : Byte) (s : State) : Owned :=
  match s.named id with
  | .error st => .refused s st
  | .ok g =>
    if g.retiring then .refused s .retiring
    else if g.state = .loading then .refused s .segmentBusy
    else if g.refs = 0 then .reply (s.freeSegment g false) .ok (u8 0 ++ u8 0)
    else .reply (s.retire g) .ok (u8 1 ++ u8 g.refs)

/-- Block numbers that one GET_SEGMENT reports at most (R22). -/
def reportedBlocks : Nat := 32

/-- The report of a segment record from a block index on (R22). -/
def Segment.report (g : Segment) (index : Nat) : List Byte :=
  let shown := (g.blocks.drop index).take reportedBlocks
  [g.id] ++ u8 g.state.num ++ yesNo g.retiring ++ u16 g.length ++ u16 g.fill ++ u8 g.blocks.length ++ u8 g.refs ++
    u8 g.origin.num ++ u8 g.marks.length ++ marksBytes g.marks ++ u8 shown.length ++ shown.flatMap u16

/-- GET_SEGMENT (R22). -/
def ownGetSegment (f : GetSegmentFields) (s : State) : Owned :=
  if 127 < f.index.toNat then .refused s .range
  else
    match s.named f.id with
    | .error st => .refused s st
    | .ok g =>
      if g.blocks.length ≤ f.index.toNat then .refused s .range else .reply s .ok (g.report f.index.toNat)

/-- The longest length the free list allows (R23). -/
def Pool.largest (p : Pool) : Nat := min (p.free.length * Config.blockSamples) Config.maxLength

/-- The report of the pool (R23). -/
def Pool.report (p : Pool) : List Byte :=
  u16 p.free.length ++ u16 (p.free.head?.getD 65535) ++ u8 p.map.length ++ u16 p.largest ++ p.map.map (·.id)

/-- GET_POOL (R23). -/
def ownGetPool (_ : Unit) (s : State) : Owned := .reply s .ok s.pool.report

/-- The failure of a LOADING segment: the job's reference is released as part of it; the segment is freed when that was the
last, else it stays FAILED and retiring and the FAILED report is issued (R9). DESIGN CHOICE: the contents of its blocks beyond the
fill mark, which R111 calls not defined, stay as they stood (notes/assumptions/39.md). -/
def State.failLoading (s : State) (id : Byte) : State :=
  match s.segment? id with
  | none => s
  | some g =>
    if g.refs - 1 = 0 then s.freeSegment { g with state := .failed, refs := 0 } true
    else
      (s.modSegment id (fun x => { x with state := .failed, retiring := true, refs := x.refs - 1 })).reportFailed id

/-- The disposition of a segment whose LOAD fails: FREED, or RETIRED, with the refs after the release (R116). DESIGN CHOICE: R116 can be
read to give refs after RETIRED alone; here a refs byte follows both, 0 after FREED (notes/assumptions/17.md). -/
def Segment.loadDisposition (g : Segment) : List Byte :=
  if g.refs - 1 = 0 then u8 0 ++ u8 0 else u8 1 ++ u8 (g.refs - 1)

end Sys2Proof.Machine
end

