-- ==== Sys2Proof/Machine/Jobs.lean ====
section
/-!
DEFINITION. The Store Controller: acceptance, selection, suspension, completion and CANCEL of jobs, FREEZE, and the store
reports (spec 05, spec 06).
-/

namespace Sys2Proof.Machine

/-! ### Selection (R109, R110) -/

/-- The plan area of the store. -/
def State.planArea (s : State) : PlanArea := s.store.plan

/-- Puts the plan area. -/
def State.setPlan (s : State) (p : PlanArea) : State := { s with store := { s.store with plan := p } }

/-- The announcement a job makes when it first becomes ACTIVE (R109). -/
def State.announce (s : State) (w : Work) : State :=
  match w with
  | .save n _ _ => s.setSlot n { s.slot n with operation := .save }
  | .erase n => s.setSlot n { s.slot n with operation := .erase }
  | .savePlan _ => s.setPlan { s.planArea with operation := .write }
  | .clearPlan => s.setPlan { s.planArea with operation := .clear }
  | .load _ _ => s
  | .setLock _ _ => s

/-- A job becomes ACTIVE: a resumed erase makes no new announcement (R109). -/
def State.announceFor (s : State) (j : Job) : State := if j.isQueued then s.announce j.work else s

/-- The test that picks the next job from the list, the oldest that passes it (R110). -/
def picks (jobs : List Job) (j : Job) : Bool :=
  if jobs.any Job.isSuspended then
    if jobs.any Job.isQueuedLoad then j.isQueuedLoad else j.isSuspended
  else j.isQueued

/-- A job in state ACTIVE. -/
def Job.activated (j : Job) : Job := { j with state := .active }

/-- The selection rule of an idle controller (R110). -/
def State.select (s : State) : State :=
  if s.jobs.any Job.isActive then s
  else
    match s.jobs.find? (picks s.jobs) with
    | some j => { s.announceFor j with jobs := modifyFirst (picks s.jobs) Job.activated s.jobs }
    | none => s

/-! ### Acceptance (R105–R108, R112) -/

/-- The ACTIVE erase of another slot that a LOAD of slot `n` may suspend (R112). -/
def Job.suspendable (n : Fin 32) (j : Job) : Bool :=
  match j.work with
  | .erase m => j.isActive && m ≠ n && decide (j.suspensions < Config.maxSuspensions)
  | _ => false

/-- The conditions under which a LOAD of slot `n` suspends the ACTIVE erase (R112). -/
def suspends (n : Fin 32) (jobs : List Job) : Bool := jobs.any (Job.suspendable n) && !jobs.any Job.isSuspended

/-- An erase as it is suspended (R112). -/
def Job.suspend (j : Job) : Job := { j with state := .suspended, suspensions := j.suspensions + 1 }

/-- A new job (R108). -/
def newJob (w : Work) (origin : JobOrigin) (blocks : Nat) : Job := ⟨w, origin, .queued, w.duration blocks, 0⟩

/-- Acceptance of a job that is no LOAD: it goes to the tail and an idle controller selects (R108). -/
def State.accept (s : State) (w : Work) (origin : JobOrigin) (blocks : Nat) : State :=
  ({ s with jobs := s.jobs ++ [newJob w origin blocks] }).select

/-- Acceptance of a LOAD of slot `n`: it suspends the ACTIVE erase, or it is accepted as any job (R108, R112). -/
def State.acceptLoad (s : State) (n : Fin 32) (id : Byte) (origin : JobOrigin) (blocks : Nat) : State :=
  if suspends n s.jobs then
    { s with jobs := modifyFirst (Job.suspendable n) Job.suspend s.jobs ++
               [(newJob (.load n id) origin blocks).activated] }
  else s.accept (.load n id) origin blocks

/-- Check 1: the job list is full (R105). -/
def State.jobsFull (s : State) : Bool := decide (Config.maxJobs ≤ s.jobs.length)

/-- Check 3: a job names the slot (R105). -/
def State.slotBusy (s : State) (n : Fin 32) : Bool := (jobNaming n s.jobs).isSome

/-- Check 4 for SAVE and ERASE (R92). -/
def Slot.writeCheck (x : Slot) : Option Status :=
  match x.effective with
  | .unlocked => none
  | .locked => some .slotLocked
  | .frozen => some .slotFrozen

/-- Checks 3 and 4 of SAVE and ERASE. -/
def State.writable (s : State) (n : Fin 32) : Option Status :=
  if s.slotBusy n then some .slotBusy else (s.slot n).writeCheck

/-- The state checks of SAVE (R106). -/
def State.saveCheck (s : State) (n : Fin 32) (id : Byte) : Except Status Segment :=
  match s.segment? id with
  | none => .error .noSuchSegment
  | some g =>
    if g.state ≠ .ready ∨ g.retiring = true then .error .segmentState
    else if (s.slot n).stored ≠ .blank then .error .slotNotBlank
    else if Config.saveLimit ≤ (s.slot n).saveCount then .error .slotWorn
    else .ok g

/-- The slot of a SAVE whose fields pass (R105). -/
def saveOf (f : SaveFields) : Option (Fin 32) := if idOk f.id && labelOk f.label then fin32 f.slot else none

/-- SAVE (R105, R106). -/
def ownSave (tag : Byte) (f : SaveFields) (s : State) : Owned :=
  if s.jobsFull then .refused s .jobsFull
  else
    match saveOf f with
    | none => .refused s .range
    | some n =>
      match s.writable n with
      | some st => .refused s st
      | none =>
        match s.saveCheck n f.id with
        | .error st => .refused s st
        | .ok g => .deferred ((s.takeRef f.id).accept (.save n f.id f.label) (.request tag false) (blocksFor g.length))

/-- The state checks of LOAD (R107). -/
def State.loadCheck (s : State) (n : Fin 32) (id : Byte) : Option Status :=
  if (s.slot n).stored ≠ .stored then some .slotEmpty else createCheck id (s.slot n).length s

/-- A LOAD, by a request or a plan step: refused with a status, or accepted with its segment created (R105, R107). -/
def State.offerLoad (s : State) (f : LoadFields) (origin : JobOrigin) : Except Status State :=
  if s.jobsFull then .error .jobsFull
  else
    match loadOf f with
    | none => .error .range
    | some n =>
      if s.slotBusy n then .error .slotBusy
      else
        match s.loadCheck n f.id with
        | some st => .error st
        | none =>
          .ok ((s.createSegment f.id .loading (s.slot n).length (s.slot n).marks 1 (.slot n)).acceptLoad n f.id origin
            (blocksFor (s.slot n).length))

/-- LOAD (R107). -/
def ownLoad (tag : Byte) (f : LoadFields) (s : State) : Owned :=
  match s.offerLoad f (.request tag false) with
  | .error st => .refused s st
  | .ok t => .deferred t

/-- ERASE (R105). -/
def ownErase (tag : Byte) (slot : Byte) (s : State) : Owned :=
  if s.jobsFull then .refused s .jobsFull
  else
    match fin32 slot with
    | none => .refused s .range
    | some n =>
      match s.writable n with
      | some st => .refused s st
      | none => .deferred (s.accept (.erase n) (.request tag false) 0)

/-- SET_LOCK (R92, R105). -/
def ownSetLock (tag : Byte) (f : LockFields) (s : State) : Owned :=
  if s.jobsFull then .refused s .jobsFull
  else
    match fin32 f.slot, levelOf f.level with
    | some n, some level =>
      if s.slotBusy n then .refused s .slotBusy
      else if level = .unlocked ∧ (s.slot n).effective = .frozen then .refused s .slotFrozen
      else .deferred (s.accept (.setLock n level) (.request tag false) 0)
    | _, _ => .refused s .range

/-- The data of a PLAN_INVALID refusal: the step index or absent, and the number of the check (R97). -/
def planInvalidData (index : Option Nat) (check : Nat) : List Byte := optByte index ++ u8 check

/-- SAVE_PLAN (R97, R105). -/
def ownSavePlan (tag : Byte) (f : PlanFields) (s : State) : Owned :=
  if s.jobsFull then .refused s .jobsFull
  else
    match planCheck f with
    | some (i, k) => .reply s .planInvalid (planInvalidData i k)
    | none =>
      if (planJob s.jobs).isSome then .refused s .slotBusy
      else .deferred (s.accept (.savePlan ⟨f.runOn, f.steps⟩) (.request tag false) 0)

/-- CLEAR_PLAN (R105). -/
def ownClearPlan (tag : Byte) (_ : Unit) (s : State) : Owned :=
  if s.jobsFull then .refused s .jobsFull
  else if (planJob s.jobs).isSome then .refused s .slotBusy
  else .deferred (s.accept .clearPlan (.request tag false) 0)

/-! ### FREEZE (R93) -/

/-- Slot, persistent level, freeze flag and effective level (R93, R118). -/
def lockData (n : Fin 32) (x : Slot) : List Byte :=
  u8 n.val ++ u8 x.lock.num ++ setClear x.freeze ++ u8 x.effective.num

/-- FREEZE (R93). -/
def ownFreeze (slot : Byte) (s : State) : Owned :=
  match fin32 slot with
  | none => .refused s .range
  | some n =>
    if (s.slot n).freeze then .reply s .ok (lockData n (s.slot n))
    else if (s.slot n).lock = .unlocked then .refused s .slotLocked
    else
      let x := { s.slot n with freeze := true }
      .reply (s.setSlot n x) .ok (lockData n x)

/-! ### Completion (R114–R119) -/

/-- The ACTIVE job. -/
def State.activeJob (s : State) : Option Job := s.jobs.find? Job.isActive

/-- The ACTIVE job leaves the list (step 3 of R114). -/
def State.jobLeaves (s : State) : State := { s with jobs := s.jobs.eraseP Job.isActive }

/-- Steps 3 to 5 of a completion whose outcome goes to a request (R114). -/
def State.finishJob (s : State) (j : Job) (st : Status) (data : List Byte) : State :=
  (s.jobLeaves.handReply j.origin j.work.code st data).select

/-- A slot after its SAVE (R115). -/
def Slot.saved (x : Slot) (g : Segment) (label : List Byte) (samples : List Sample) : Slot :=
  { x with content := .stored, operation := .none, length := g.length, marks := g.marks, label := label,
           check := checkValue g.length samples g.marks, saveCount := x.saveCount + 1, data := samples }

/-- SAVE completion (R115). -/
def State.completeSave (s : State) : State :=
  match s.activeJob with
  | some j =>
    match j.work with
    | .save n id label =>
      match s.segment? id with
      | some g =>
        let x := (s.slot n).saved g label (segSamples s.pool.mem g)
        ((s.setSlot n x).releaseRef id).finishJob j .ok
          (u8 n.val ++ u16 x.length ++ u32 x.check.toNat ++ u32 x.saveCount)
      | none => s
    | _ => s
  | none => s

/-- A slot after its ERASE (R117). -/
def Slot.erased (x : Slot) : Slot :=
  { x with content := .blank, operation := .none, length := 0, marks := [], label := [], check := 0, data := [] }

/-- ERASE completion (R117). -/
def State.completeErase (s : State) : State :=
  match s.activeJob with
  | some j =>
    match j.work with
    | .erase n =>
      (s.setSlot n (s.slot n).erased).finishJob j .ok
        (u8 n.val ++ u32 (s.slot n).saveCount ++ u8 j.suspensions)
    | _ => s
  | none => s

/-- SET_LOCK completion (R118). -/
def State.completeSetLock (s : State) : State :=
  match s.activeJob with
  | some j =>
    match j.work with
    | .setLock n level =>
      let x := { s.slot n with lock := level }
      (s.setSlot n x).finishJob j .ok (lockData n x)
    | _ => s
  | none => s

/-- SAVE_PLAN completion (R119). -/
def State.completeSavePlan (s : State) : State :=
  match s.activeJob with
  | some j =>
    match j.work with
    | .savePlan r => (s.setPlan ⟨some r, .none⟩).finishJob j .ok (u8 r.steps.length ++ [r.runOn])
    | _ => s
  | none => s

/-- CLEAR_PLAN completion (R119). -/
def State.completeClearPlan (s : State) : State :=
  match s.activeJob with
  | some j =>
    match j.work with
    | .clearPlan => (s.setPlan ⟨none, .none⟩).finishJob j .ok []
    | _ => s
  | none => s

/-! ### The load transfer (R111) -/

/-- Stored samples that are found changed. DESIGN CHOICE: of the stored cells, of which R90 says that they may have changed since the
SAVE, the samples of the data area alone change, and not the length, the marks or the check value of the header
(notes/assumptions/15.md). -/
def changeCells (cells : List (Nat × Sample)) (data : List Sample) : List Sample :=
  cells.foldl (fun d c => d.set c.1 c.2) data

/-- Slot `n` with changed cells. -/
def State.changeSlot (s : State) (n : Fin 32) (cells : List (Nat × Sample)) : State :=
  s.setSlot n { s.slot n with data := changeCells cells (s.slot n).data }

/-- Samples already transferred: whole blocks (R111). -/
def Segment.transferred (g : Segment) : Nat := Config.blockSamples * (g.fill / Config.blockSamples)

/-- The end of a block transfer that is not the last (R111); with none left but the last there is none. -/
def State.transferBlock (s : State) (cells : List (Nat × Sample)) : State :=
  match s.activeJob with
  | some j =>
    match j.work with
    | .load n id =>
      match s.segment? id with
      | some g =>
        if g.fill / Config.blockSamples + 1 < g.blocks.length then
          let s1 := s.changeSlot n cells
          (s1.fillSamples g g.transferred (((s1.slot n).data.drop g.transferred).take Config.blockSamples)).modSegment id
            (fun x => { x with fill := g.transferred + Config.blockSamples })
        else s
      | none => s
    | _ => s
  | none => s

/-- The transfers that remain, up to the segment's length: the contents and the fill mark (R111, R116). -/
def State.transferRest (s : State) (n : Fin 32) (g : Segment) (cells : List (Nat × Sample)) : State :=
  let s1 := s.changeSlot n cells
  (s1.fillSamples g g.transferred (((s1.slot n).data.take g.length).drop g.transferred)).modSegment g.id
    (fun x => { x with fill := g.length })

/-- A LOAD whose check value matches: READY, the report, the job's reference released (R116). -/
def State.loadSucceeds (s : State) (id : Byte) : State :=
  ((s.modSegment id (fun x => { x with state := .ready })).reportReady id).releaseRef id

/-! ### CANCEL (R120, R121) -/

/-- A job whose origin is the non-orphaned pending entry under this tag (R120). -/
def Job.isOf (tag : Byte) (j : Job) : Bool := j.origin = .request tag false

/-- What taking a job out does to the pool (R121). The store keeps its announcements as they stand. -/
def State.cancelEffect (s : State) (w : Work) : State :=
  match w with
  | .save _ id _ => s.releaseRef id
  | .load _ id => s.failLoading id
  | _ => s

/-- Reported state of the slot or plan area a job names. -/
def State.reportedOf (s : State) (w : Work) : Nat :=
  match w.slot? with
  | some n => reportedSlot n (s.slot n) s.jobs
  | none => reportedPlan s.planArea s.jobs

/-- An ACTIVE SET_LOCK (R120). -/
def Job.unstoppable (j : Job) : Bool :=
  match j.work with
  | .setLock _ _ => j.isActive
  | _ => false

/-- A job is taken out; when it was the ACTIVE one the selection rule runs (R120). -/
def State.takeOut (s : State) (tag : Byte) (j : Job) : State :=
  let s1 := s.cancelEffect j.work
  let s2 := { s1 with jobs := s1.jobs.eraseP (Job.isOf tag) }
  if j.isActive then s2.select else s2

/-- The data of both replies of a CANCEL (R120). -/
def cancelData (j : Job) (after : State) : List Byte := u8 j.work.num ++ u8 j.state.num ++ u8 (after.reportedOf j.work)

/-- CANCEL (R120). -/
def ownCancel (tag : Byte) (s : State) : Owned :=
  match s.jobs.find? (Job.isOf tag) with
  | none => .refused s .noSuchJob
  | some j =>
    if j.unstoppable then .refused s .notCancellable
    else
      let s1 := s.takeOut tag j
      .reply (s1.placeReply tag j.work.code .cancelled (cancelData j s1)) .ok (cancelData j s1)

/-! ### Store reports (R100–R102, R176) -/

/-- Length, marks, label and check value as reported: those of a STORED slot, else the blank values (R89). -/
def reportedContent (x : Slot) (reported : Nat) : Nat × List Mark × List Byte × Nat :=
  if reported = 1 then (x.length, x.marks, x.label, x.check.toNat) else (0, [], [], 0)

/-- Kind, state, whether the origin is a request, and the tag of a job; each absent when there is none (R100;
notes/assumptions/17.md). -/
def jobData : Option Job → List Byte
  | some j => u8 j.work.num ++ u8 j.state.num ++ yesNo j.origin.isRequest ++ [j.origin.tag]
  | none => [255, 255, 255, 255]

/-- The suspension count of an ERASE, and whether its remaining time is the full 60 ms (0) or a part of it (1) (R100). -/
def eraseData : Option Job → List Byte
  | some j =>
    match j.work with
    | .erase _ => u8 j.suspensions ++ u8 (if j.remaining = Config.eraseTime then 0 else 1)
    | _ => []
  | none => []

/-- The report of a slot (R100). -/
def State.slotReport (s : State) (n : Fin 32) : List Byte :=
  let x := s.slot n
  let st := reportedSlot n x s.jobs
  let c := reportedContent x st
  u8 n.val ++ u8 st ++ u16 c.1 ++ u8 c.2.1.length ++ marksBytes c.2.1 ++ u8 c.2.2.1.length ++ c.2.2.1 ++ u32 c.2.2.2 ++
    u8 x.lock.num ++ setClear x.freeze ++ u8 x.effective.num ++ u32 x.saveCount ++ u32 (Config.saveLimit - x.saveCount) ++
    jobData (jobNaming n s.jobs) ++ eraseData (jobNaming n s.jobs)

/-- GET_SLOT (R100). -/
def ownGetSlot (slot : Byte) (s : State) : Owned :=
  match fin32 slot with
  | none => .refused s .range
  | some n => .reply s .ok (s.slotReport n)

/-- All slots, in rising number. -/
def allSlots : List (Fin 32) := List.finRange 32

/-- Slots reported in a state (R101). -/
def State.countReported (s : State) (st : Nat) : Nat :=
  allSlots.countP (fun n => reportedSlot n (s.slot n) s.jobs = st)

/-- The three bytes of a job in the job list (R176). -/
def jobRecord (j : Job) : List Byte :=
  u8 (j.work.num + 8 * j.state.num + (if j.origin.isRequest then 64 else 0)) ++ optByte (j.work.slot?.map (·.val)) ++
    [j.origin.tag]

/-- A slot record (R101, R176). DESIGN CHOICE: R95 has GET_STORE report the saves remaining beside the save count, R101 and R176 list
no such field; they are followed (notes/assumptions/38.md). -/
def State.slotRecord (s : State) (n : Fin 32) : List Byte :=
  let x := s.slot n
  let st := reportedSlot n x s.jobs
  let c := reportedContent x st
  u8 st ++ u8 x.effective.num ++ u16 c.1 ++ u32 x.saveCount ++ u8 c.2.2.1.length ++ c.2.2.1

/-- As many whole records from the front as fit in the space (R176). -/
def fitting : Nat → List (List Byte) → List (List Byte)
  | _, [] => []
  | space, r :: rs => if r.length ≤ space then r :: fitting (space - r.length) rs else []

/-- The store-wide part of the report (R176). -/
def State.storeWide (s : State) : List Byte :=
  u8 (s.countReported 0) ++ u8 (s.countReported 1) ++ u8 (s.countReported 2) ++ u8 (s.countReported 3) ++
    u8 (s.countReported 4) ++ u8 (reportedPlan s.planArea s.jobs) ++ u8 s.jobs.length ++ s.jobs.flatMap jobRecord

/-- The report of the store from a first slot on (R101, R176). -/
def State.storeReport (s : State) (first : Fin 32) : List Byte :=
  let head := s.storeWide
  let records := fitting (Config.maxReplyData - (head.length + 2)) ((allSlots.drop first.val).map s.slotRecord)
  head ++ u8 first.val ++ u8 records.length ++ records.flatten

/-- GET_STORE (R101). -/
def ownGetStore (first : Option Byte) (s : State) : Owned :=
  match fin32 (first.getD 0) with
  | none => .refused s .range
  | some n => .reply s .ok (s.storeReport n)

/-- Kind, state and tag of the plan job; each absent when there is none (R102). -/
def planJobData : Option Job → List Byte
  | some j => u8 j.work.num ++ u8 j.state.num ++ [j.origin.tag]
  | none => [255, 255, 255]

/-- The plan record, reported while the area is STORED (R102). -/
def planRecordData (reported : Nat) : Option PlanRecord → List Byte
  | some r => if reported = 1 then r.runOn :: (u8 r.steps.length ++ stepsBytes r.steps) else []
  | none => []

/-- GET_PLAN (R102). -/
def ownGetPlan (_ : Unit) (s : State) : Owned :=
  let st := reportedPlan s.planArea s.jobs
  .reply s .ok (u8 st ++ planJobData (planJob s.jobs) ++ planRecordData st s.planArea.record)

end Sys2Proof.Machine
end

