-- ==== Sys2Proof/Machine/Triggers.lean ====
section
/-!
DEFINITION. The Trigger Unit: samples, confirmation, occurrences, and the trigger requests (spec 04).
-/

namespace Sys2Proof.Machine

/-! ### Sampling and confirmation (R69–R71) -/

/-- The run count and the confirmed level of a line after a sample that shows `level` (R70). -/
def confirmLine (confirm run : Nat) (confirmed level : Bool) : Nat × Bool :=
  if level = confirmed then (0, confirmed)
  else if run + 1 = confirm then (0, level)
  else (run + 1, confirmed)

/-- All eight lines, in rising number. -/
def allLines : List (Fin 8) := [0, 1, 2, 3, 4, 5, 6, 7]

/-- Bits of a byte from a test of the lines. -/
def byteOf (p : Fin 8 → Bool) : Byte :=
  allLines.foldl (fun b n => if p n then b ||| (1 <<< n.val) else b) 0

/-- The confirmation of line `n` at a sample. -/
def TriggerUnit.confirmedLine (u : TriggerUnit) (levels : Byte) (n : Fin 8) : Nat × Bool :=
  confirmLine u.confirm u.runs[n] (u.confirmed.getLsbD n.val) (levels.getLsbD n.val)

/-- Steps 1 and 2 of a sample after the first: raw levels, run counts, confirmed levels (R69, R70). -/
def TriggerUnit.confirmAll (u : TriggerUnit) (levels : Byte) : TriggerUnit :=
  { u with
    elapsed := 0
    raw := levels
    confirmed := byteOf (fun n => (u.confirmedLine levels n).2)
    runs := Vector.ofFn (fun n => (u.confirmedLine levels n).1) }

/-! ### Occurrences (R72–R74) -/

/-- The masked levels equal the masked pattern (R73). -/
def Trigger.meets (t : Trigger) (confirmed : Byte) : Bool := confirmed &&& t.mask = t.pattern &&& t.mask

/-- The change set holds a masked line with a selected direction (R72). -/
def Trigger.changes (t : Trigger) (rises falls : Byte) : Bool :=
  match t.edge with
  | .rise => rises &&& t.mask ≠ 0
  | .fall => falls &&& t.mask ≠ 0
  | .any => (rises ||| falls) &&& t.mask ≠ 0

/-- A trigger makes an occurrence at a sample (R72, R73). -/
def Trigger.occurs (t : Trigger) (rises falls confirmed : Byte) : Bool :=
  match t.mode with
  | .change => t.changes rises falls
  | .matching => t.meets confirmed && !t.matched
  | .off => false
  | .soft => false

/-- Matched after a sample (R73). -/
def Trigger.nextMatched (t : Trigger) (confirmed : Byte) : Bool :=
  match t.mode with
  | .matching => t.meets confirmed
  | _ => t.matched

/-- The occurrence count after an occurrence (R74). -/
def Trigger.nextCount (t : Trigger) : Nat := if t.count + 1 = t.prescale then 0 else t.count + 1

/-- A trigger examines a sample: matched and the occurrence count (R72–R74). -/
def Trigger.examine (t : Trigger) (rises falls confirmed : Byte) : Trigger :=
  { t with
    matched := t.nextMatched confirmed
    count := if t.occurs rises falls confirmed then t.nextCount else t.count }

/-- A trigger fires at a sample (R74). -/
def Trigger.reaches (t : Trigger) (rises falls confirmed : Byte) : Bool :=
  t.occurs rises falls confirmed && decide (t.count + 1 = t.prescale)

/-- One trigger at a sample: it examines, counts, and fires when it reaches its prescale. -/
def State.examineTrigger (rises falls confirmed : Byte) (t : Fin 8) (s : State) : State :=
  let tr := s.trigger t
  let s1 := s.setTrigger t (tr.examine rises falls confirmed)
  if tr.reaches rises falls confirmed then s1.fireTrigger t none else s1

/-- The triggers in the order of a sample: those listed first, then the others in rising number
(notes/assumptions/11.md). -/
def sampleOrder (order : List (Fin 8)) : List (Fin 8) :=
  let first := order.reverse.foldl (fun acc t => t :: acc.filter (· ≠ t)) []
  first ++ allLines.filter (fun t => !first.contains t)

/-- The first sample after a reset (R71). -/
def State.firstSample (s : State) (levels : Byte) : State :=
  { s with trig := { s.trig with
      elapsed := 0, sampled := true, raw := levels, confirmed := levels, runs := Vector.replicate 8 0
      triggers := Vector.ofFn (fun n =>
        { s.trig.triggers[n] with matched := s.trig.triggers[n].nextMatched levels }) } }

/-- A later sample (R69). DESIGN CHOICE: R69 makes a sample one event and R76 calls each of several firings at it a separate event;
here all are taken in the sample's event, with one choice of the arbiter at its end (notes/assumptions/11.md). -/
def State.laterSample (s : State) (levels : Byte) (order : List (Fin 8)) : State :=
  let old := s.trig.confirmed
  let s1 := { s with trig := s.trig.confirmAll levels }
  let now := s1.trig.confirmed
  forEach (State.examineTrigger (now &&& ~~~old) (old &&& ~~~now) now) (sampleOrder order) s1

/-- A sample of the eight lines (R69). -/
def State.takeSample (s : State) (levels : Byte) (order : List (Fin 8)) : State :=
  if s.trig.sampled then s.laterSample levels order else s.firstSample levels

/-! ### Trigger requests -/

/-- SET_INPUTS (R75). DESIGN CHOICE: no rule lays out the confirmed levels in the reply; they are one byte, INn in bit n
(notes/assumptions/17.md). -/
def ownSetInputs (f : InputsFields) (s : State) : Owned :=
  if !inputsOk f then .refused s .range
  else
    .reply { s with trig := { s.trig with
        divider := f.divider.toNat, confirm := f.confirm.toNat, elapsed := 0, runs := Vector.replicate 8 0 } } .ok
      (halfBytes f.divider ++ [f.confirm, s.trig.confirmed])

/-- The six definition fields (R79, R84). -/
def Trigger.definition (t : Trigger) : List Byte :=
  u8 t.mode.num ++ [t.mask, t.pattern] ++ u8 t.edge.num ++ u8 t.prescale ++ yesNo t.notify

/-- A trigger after its definition (R79). -/
def Trigger.define (t : Trigger) (m : TrigMode) (e : Edge) (f : TriggerFields) (sampled : Bool) (confirmed : Byte) :
    Trigger :=
  let d := { t with mode := m, mask := f.mask, pattern := f.pattern, edge := e, prescale := f.prescale.toNat,
                    notify := f.notify != 0, count := 0, matched := false }
  { d with matched := sampled && decide (m = .matching) && d.meets confirmed }

/-- DEFINE_TRIGGER (R79). -/
def ownDefineTrigger (f : TriggerFields) (s : State) : Owned :=
  match definitionOf f with
  | none => .refused s .range
  | some (t, m, e) =>
    let d := (s.trigger t).define m e f s.trig.sampled s.trig.confirmed
    .reply (s.setTrigger t d) .ok (d.definition ++ yesNo d.matched ++ u32 d.fires.toNat)

/-- FIRE (R77). DESIGN CHOICE: the captured levels in the reply are one byte, with INn in bit n (notes/assumptions/17.md). -/
def ownFire (trigger : Byte) (s : State) : Owned :=
  match fin8 trigger with
  | none => .refused s .range
  | some t =>
    if (s.trigger t).mode = .off then .refused s .triggerOff
    else
      let s1 := s.fireTrigger t none
      .reply s1 .ok (u32 (s1.trigger t).fires.toNat ++ [(s1.trigger t).captured])

/-- The report of a trigger (R84). DESIGN CHOICE: the captured levels are one byte, with INn in bit n (notes/assumptions/17.md). -/
def State.triggerReport (s : State) (t : Fin 8) : List Byte :=
  (s.trigger t).definition ++ u8 (s.trigger t).count ++ yesNo (s.trigger t).matched ++ u32 (s.trigger t).fires.toNat ++
    [(s.trigger t).captured, maskOf (fun c => (s.channel c).waitsOn = some t), maskOf (fun c => (s.channel c).untilOf = some t)]

/-- GET_TRIGGER (R84). -/
def ownGetTrigger (trigger : Byte) (s : State) : Owned :=
  match fin8 trigger with
  | none => .refused s .range
  | some t => .reply s .ok (s.triggerReport t)

/-- The report of the sampler and the lines (R85). -/
def TriggerUnit.report (u : TriggerUnit) : List Byte :=
  u16 u.divider ++ u8 u.confirm ++ yesNo u.sampled ++
    allLines.flatMap (fun n => yesNo (u.raw.getLsbD n.val) ++ yesNo (u.confirmed.getLsbD n.val) ++ u8 u.runs[n]) ++
    allLines.flatMap (fun t => u8 u.triggers[t].mode.num)

/-- GET_INPUTS (R85). -/
def ownGetInputs (_ : Unit) (s : State) : Owned := .reply s .ok s.trig.report

end Sys2Proof.Machine
end

