-- ==== Sys2Proof/Machine/Startup.lean ====
section
/-!
DEFINITION. The Start-up Controller: resets, the store scan, the plan run, RESET and ABORT_PLAN, and the LOAD completion, whose
outcome may go to the plan (spec 07).
-/

namespace Sys2Proof.Machine

/-! ### Resets (R127, R128) -/

/-- The store after a reset: POWER_ON clears the freeze flags, nothing else changes (R99, R128). -/
def Store.afterReset (cause : Cause) (x : Store) : Store :=
  match cause with
  | .powerOn => { x with slots := Vector.ofFn (fun n => { x.slots[n] with freeze := false }) }
  | .pin => x
  | .soft => x

/-- A reset of this cause with these straps takes effect: every block takes its reset values and the scan begins (R128). The
queue of commands is no part of the device. -/
def State.takeReset (s : State) (cause : Cause) (straps : BitVec 2) : State :=
  { State.reset with
    powered := s.powered
    resetnLow := s.resetnLow
    store := s.store.afterReset cause
    startup := .reset cause
    link := .reset straps
    pending := s.pending }

/-- A SOFT reset keeps the straps sampled last (R128). -/
def State.softReset (s : State) : State := s.takeReset .soft s.link.straps

/-- Every block at its reset values, the store as it stands, the cause of the last reset kept (R127, R99). -/
def State.hold (s : State) : State :=
  { State.reset with
    powered := s.powered
    resetnLow := s.resetnLow
    store := s.store
    startup := .reset s.startup.cause
    link := .reset s.link.straps
    pending := s.pending }

/-- Power comes (R127). -/
def State.powerUp (s : State) (straps : BitVec 2) : State := ({ s with powered := true }).takeReset .powerOn straps

/-- Power goes (R99). -/
def State.powerDown (s : State) : State := ({ s with powered := false }).hold

/-- RESETn goes low (R127). -/
def State.assertReset (s : State) : State := ({ s with resetnLow := true }).hold

/-- RESETn returns high: a PIN reset when the part is powered (R127; notes/assumptions/21.md). -/
def State.releaseReset (s : State) (straps : BitVec 2) : State :=
  if s.powered then ({ s with resetnLow := false }).takeReset .pin straps else { s with resetnLow := false }

/-! ### The end of STARTING (R137) -/

/-- Plan result, step index and status in the STARTED detail (R182). -/
def resultBytes : Option PlanResult → List Byte
  | some .notRun => [0, 255, 255]
  | some .completed => [1, 255, 255]
  | some (.failed i st) => 2 :: (u8 i ++ [st.code])
  | some (.aborted i) => 3 :: (u8 i ++ [255])
  | none => [0, 255, 255]

/-- The detail of STARTED (R137, R182). -/
def Startup.detail (u : Startup) : List Byte :=
  u8 u.cause.num ++ u8 u.blank ++ u8 u.stored ++ u8 u.torn ++ u8 u.planState.num ++ resultBytes u.result ++
    [u.planStarted.setWidth 8]

/-- Changes the Start-up Controller. -/
def State.modStartup (s : State) (f : Startup → Startup) : State := { s with startup := f s.startup }

/-- STARTING ends with this result: READY, no step, the STARTED notice (R137). -/
def State.endStarting (s : State) (r : PlanResult) : State :=
  let s1 := s.modStartup (fun u => { u with phase := .ready, step := none, result := some r })
  s1.notify .started .part s1.startup.detail

/-- The channels of the plan-started set. -/
def Startup.startedChannels (u : Startup) : List (Fin 4) := allChannels.filter (fun c => u.planStarted.getLsbD c.val)

/-- The plan-started channels stop as by STOP IMMEDIATE (R135). -/
def State.stopPlanChannels (s : State) : State := forEach State.stopNow s.startup.startedChannels s

/-! ### Plan steps (R131–R134) -/

/-- A step that is no LOAD goes to its owner (R132). A LOAD step is offered by `runSteps`. -/
def ownStep (p : PlanStep) (s : State) : Owned :=
  match p with
  | .load _ => .deferred s
  | .config f => ownConfigure f s
  | .rate f => ownSetRate f s
  | .inputs f => ownSetInputs f s
  | .trigger f => ownDefineTrigger f s
  | .enqueue f => ownEnqueue f s
  | .run m => ownRunRates m s
  | .start m => ownStart m s

/-- A taken START step adds its channels to the plan-started set (R132). -/
def State.noteStarted (s : State) (p : PlanStep) : State :=
  match p with
  | .start m => s.modStartup (fun u => { u with planStarted := u.planStarted ||| m.setWidth 4 })
  | _ => s

/-- The plan run ends FAILED at a step (R134). -/
def State.failPlan (s : State) (i : Nat) (st : Status) : State := s.stopPlanChannels.endStarting (.failed i st)

/-- The steps from index `i` on, in one event: up to an accepted LOAD, a refusal, or the end of the plan (R132, R133). -/
def State.runSteps : List PlanStep → Nat → State → State
  | [], _, s => s.endStarting .completed
  | p :: ps, i, s0 =>
    let s := s0.modStartup (fun u => { u with step := some i })
    match p with
    | .load f =>
      match s.offerLoad f .plan with
      | .ok t => t
      | .error st => s.failPlan i st
    | p =>
      match ownStep p s with
      | .deferred t => t
      | .reply t st _ => if st = .ok then State.runSteps ps (i + 1) (t.noteStarted p) else s.failPlan i st

/-- Bit of a cause in the run-on set (R173). -/
def Cause.inSet (c : Cause) (set : Byte) : Bool := set.getLsbD c.num

/-- The scan's findings (R129). -/
def Startup.scanned (u : Startup) (x : Store) : Startup :=
  { u with blank := countSlots .blank x.slots, stored := countSlots .stored x.slots, torn := countSlots .torn x.slots,
           planState := x.plan.stored }

/-- The decision on the plan: its steps when it is to run (R131). -/
def State.planToRun (s : State) : Option (List PlanStep) :=
  match s.store.plan.stored, s.store.plan.record with
  | .stored, some r => if s.startup.cause.inSet r.runOn then some r.steps else none
  | _, _ => none

/-- Scan completion (R129, R131). -/
def State.completeScan (s : State) : State :=
  if s.startup.phase = .scanning then
    let s1 := s.modStartup (fun u => u.scanned s.store)
    match s1.planToRun with
    | some steps => State.runSteps steps 0 (s1.modStartup (fun u => { u with phase := .plan }))
    | none => s1.endStarting .notRun
  else s

/-! ### LOAD completion (R116, R133) -/

/-- The plan run goes on after its LOAD step (R133). -/
def State.resumePlan (s : State) : State :=
  match s.startup.step, s.store.plan.record with
  | some i, some r => State.runSteps (r.steps.drop (i + 1)) (i + 1) s
  | _, _ => s

/-- The outcome of a LOAD step: the run goes on or fails; when it has ended already the outcome is discarded (R104, R133). -/
def State.planOutcome (s : State) (st : Status) : State :=
  if s.startup.phase = .plan then
    if st = .ok then s.resumePlan else s.failPlan (s.startup.step.getD 0) st
  else s

/-- The outcome of a LOAD goes to its origin (R104). -/
def State.handLoad (s : State) (origin : JobOrigin) (st : Status) (data : List Byte) : State :=
  match origin with
  | .request _ _ => s.handReply origin 0x61 st data
  | .plan => s.planOutcome st

/-- Steps 3 to 5 of a LOAD completion (R114). -/
def State.finishLoad (s : State) (j : Job) (st : Status) (data : List Byte) : State :=
  (s.jobLeaves.handLoad j.origin st data).select

/-- The CRC over the length, samples and marks transferred (R90, R116). -/
def State.loadedCheck (s : State) (g : Segment) : Word := checkValue g.length (segSamples s.pool.mem g) g.marks

/-- The pool's part and the outcome of a LOAD whose last transfer has ended (R116). -/
def State.judgeLoad (s : State) (j : Job) (n : Fin 32) (g : Segment) : State :=
  let stored := (s.slot n).check
  let computed := s.loadedCheck g
  if computed = stored then
    (s.loadSucceeds g.id).finishLoad j .ok (u8 n.val ++ [g.id] ++ u16 g.length ++ u32 stored.toNat)
  else
    (s.failLoading g.id).finishLoad j .checkFailed
      (u8 n.val ++ [g.id] ++ u32 stored.toNat ++ u32 computed.toNat ++ g.loadDisposition)

/-- LOAD completion (R111, R116). -/
def State.completeLoad (s : State) (cells : List (Nat × Sample)) : State :=
  match s.activeJob with
  | some j =>
    match j.work with
    | .load n id =>
      match s.segment? id with
      | some g => (s.transferRest n g cells).judgeLoad j n g
      | none => s
    | _ => s
  | none => s

/-! ### RESET and ABORT_PLAN (R136, R139) -/

/-- RESET (R139). -/
def ownReset (_ : Unit) (s : State) : Owned := .reply (s.modStartup (fun u => { u with resetPending := true })) .ok []

/-- ABORT_PLAN (R136). -/
def ownAbortPlan (_ : Unit) (s : State) : Owned :=
  match s.startup.phase with
  | .plan =>
    let i := s.startup.step.getD 0
    .reply (s.stopPlanChannels.endStarting (.aborted i)) .ok (u8 i ++ [s.startup.planStarted.setWidth 8])
  | .scanning => .refused s .notStarting
  | .ready => .refused s .notStarting

end Sys2Proof.Machine
end

