-- ==== Sys2Proof/Machine/NoticeQueue.lean ====
section
/-!
DEFINITION. The Notice Queue: acknowledgement, LOST, the retransmit timer, the marking at a break, SET_NOTICES; and the Host
Link's reports and ends of transmissions (spec 08, spec 10).
-/

namespace Sys2Proof.Machine

/-! ### Acknowledgement (R181, R186, R187) -/

/-- The SENT record that carries a number. -/
def Notice.isSentAs (n : Byte) (r : Notice) : Bool := r.state = .sent n

/-- The records after those through the one numbered `n` have left (R186). -/
def dropThrough (n : Byte) : List Notice → List Notice
  | [] => []
  | r :: rs => if r.isSentAs n then rs else dropThrough n rs

/-- The timer after records have left: restarted while SENT records remain, else stopped (R187). -/
def timerFor (records : List Notice) : Timer := if records.any Notice.isSent then .running 0 else .stopped

/-- The detail of LOST (R182). -/
def Notices.lostDetail (q : Notices) : List Byte := u16 q.tally.toNat ++ u16 q.total.toNat

/-- A LOST notice when the tally is above 0; the tally then returns to 0 (R181). -/
def Notices.reportLoss (q : Notices) : Notices :=
  if q.tally = 0 then q else { q.produce .lost .part q.lostDetail with tally := 0 }

/-- A valid acknowledgement at the queue (R186). -/
def Notices.acknowledge (n : Byte) (q : Notices) : Notices :=
  ({ q with records := dropThrough n q.records, timer := timerFor (dropThrough n q.records) }).reportLoss

/-- An acknowledgement of number `n` (R186). -/
def State.acknowledge (s : State) (n : Byte) : State :=
  if s.notices.records.any (Notice.isSentAs n) then { s with notices := s.notices.acknowledge n }
  else s.count (fun c => { c with unknownAcks := satInc c.unknownAcks })

/-! ### Marking for resending (R188, R189) -/

/-- A record that carries a number becomes SENT-RESEND. -/
def Notice.mark (r : Notice) : Notice :=
  match r.state with
  | .new => r
  | .sent n => { r with state := .resend n }
  | .resend _ => r

/-- Every numbered record is marked and the timer stops, at an expiry or a break (R188, R189). -/
def Notices.markAll (q : Notices) : Notices := { q with records := q.records.map Notice.mark, timer := .stopped }

/-- Expiry of the retransmit timer, when it runs (R188). -/
def State.expireTimer (s : State) : State :=
  match s.notices.timer with
  | .running _ => { s with notices := s.notices.markAll }
  | .stopped => s

/-! ### SET_NOTICES (R191) -/

/-- STARTED and LOST, which are always in the enable set. -/
def alwaysEnabled : BitVec 9 := 0x180

/-- The reply data of SET_NOTICES (R191). -/
def Notices.report (q : Notices) : List Byte :=
  u8 q.window ++ u16 q.enable.toNat ++ u8 q.records.length ++
    u8 (q.records.countP (fun r => r.seq?.isSome)) ++ [q.nextSeq] ++ u16 q.tally.toNat ++ u16 q.total.toNat

/-- SET_NOTICES (R191). -/
def ownSetNotices (f : NoticesFields) (s : State) : Owned :=
  if Config.maxWindow < f.window.toNat ∨ 512 ≤ f.enable.toNat then .refused s .range
  else
    let q := { s.notices with window := f.window.toNat, enable := f.enable.setWidth 9 ||| alwaysEnabled }
    .reply { s with notices := q } .ok q.report

/-! ### GET_LINK and GET_PART (R159, R177) -/

/-- Receiver state, by the list of the receiver's states. -/
def Receiver.num : Receiver → Nat
  | .hunt => 0
  | .length => 1
  | .body _ _ => 2
  | .check _ _ _ => 3

/-- Transmitter state: free 0, busy 1 (R154, R159). -/
def Transmitter.num : Transmitter → Nat
  | .free => 0
  | .reply _ _ => 1
  | .notice _ _ => 1

/-- The counters in the order of their table (R158). -/
def Counters.list (c : Counters) : List Half :=
  [c.goodFrames, c.huntBytes, c.lengthErrors, c.checkErrors, c.gapErrors, c.kindErrors, c.stopBitErrors, c.breaks,
   c.refusalsDropped, c.unknownAcks, c.replyFrames, c.noticeFrames]

/-- The report of the link (R159). -/
def Link.report (l : Link) : List Byte :=
  u32 (Config.baud l.straps) ++ [l.straps.setWidth 8] ++ u8 l.receiver.num ++ u8 l.tx.num ++
    l.counters.list.flatMap halfBytes

/-- GET_LINK (R159). -/
def ownGetLink (clear : Byte) (s : State) : Owned :=
  if 1 < clear.toNat then .refused s .range
  else .reply (if clear = 1 then s.count (fun _ => .zero) else s) .ok s.link.report

/-- The identity and capacities of the part (R177). -/
def partReport : List Byte :=
  u16 0x0D14 ++ u8 0x41 ++ u8 4 ++ u8 4 ++ u8 8 ++ u8 8 ++ u16 Config.poolBlocks ++ u8 Config.blockSamples ++
    u8 Config.mapRecords ++ u16 Config.maxLength ++ u8 Config.maxMarks ++ u8 Config.queueDepth ++ u8 32 ++
    u32 Config.saveLimit ++ u8 Config.maxSteps ++ u8 Config.maxJobs ++ u8 Config.maxSuspensions ++ u8 Config.maxEntries ++
    u8 Config.maxRefusals ++ u8 Config.maxNotices ++ u8 Config.maxWindow ++ u8 Config.maxWrite

/-- GET_PART (R177). -/
def ownGetPart (_ : Unit) (s : State) : Owned := .reply s .ok partReport

/-! ### Ends of transmissions (R155, R170, R185) -/

/-- A SENDING entry of this tag and code, not orphaned. -/
def Pending.isSending (tag code : Byte) (e : Pending) : Bool := e.tag = tag && e.code = code && e.state = .sending

/-- The OK reply of RESET (R139). -/
def LineItem.isResetReply : LineItem → Bool
  | .reply _ code st _ => code = 0x70 && st = .ok
  | .refusal _ _ _ => false

/-- The sent item's entry leaves the table (R170). -/
def Table.afterReply (t : Table) : LineItem → Table
  | .reply tag code _ _ => { t with entries := t.entries.eraseP (Pending.isSending tag code) }
  | .refusal _ _ _ => t

/-- The end of a reply frame: the entry leaves, the counter rises, the transmitter is free; the RESET reply's end is the SOFT
reset (R140, R155). -/
def State.endReply (s : State) : State :=
  match s.link.tx with
  | .reply item _ =>
    let s1 := { s with table := s.table.afterReply item, link := { s.link with tx := .free } }
    let s2 := s1.count (fun c => { c with replyFrames := satInc c.replyFrames })
    if s.startup.resetPending && item.isResetReply then s2.softReset else s2
  | _ => s

/-- The end of a notice frame (R156, R185). -/
def State.endNotice (s : State) : State :=
  match s.link.tx with
  | .notice _ _ =>
    ({ s with link := { s.link with tx := .free } }).count (fun c => { c with noticeFrames := satInc c.noticeFrames })
  | _ => s

/-! ### Break (R151–R153, R171) -/

/-- The entry of a reply on the line leaves with it. -/
def Pending.isQueued (e : Pending) : Bool := e.state = .queued

/-- An entry that a break leaves: orphaned unless its reply is in transmission (R152, R153, R171). -/
def Pending.orphan (e : Pending) : Pending := if e.state = .sending then e else { e with orphaned := true }

/-- The table after a break (steps 3 and 4 of R152). -/
def Table.afterBreak (t : Table) : Table :=
  { entries := (t.entries.filter (fun e => !e.isQueued)).map Pending.orphan, line := [] }

/-- The origin of a job whose entry a break orphans (R126). -/
def JobOrigin.orphan : JobOrigin → JobOrigin
  | .request tag _ => .request tag true
  | .plan => .plan

/-- A job at a break (R126). -/
def Job.orphan (j : Job) : Job := { j with origin := j.origin.orphan }

/-- Steps 1 to 6 of a break (R152). -/
def State.breakLink (s : State) : State :=
  let s1 := s.count (fun c => { c with breaks := satInc c.breaks })
  let s2 := { s1 with
    link := { s1.link with receiver := .hunt, gap := .stopped, breakHeld := true }
    table := s1.table.afterBreak
    jobs := s1.jobs.map Job.orphan
    notices := s1.notices.markAll }
  s2.linkFault 4 s2.link.counters.breaks

/-- A reply of RESET is in transmission. -/
def Transmitter.sendsReset : Transmitter → Bool
  | .reply item _ => item.isResetReply
  | _ => false

/-- A pending RESET whose reply this break discards (step 7 of R152; notes/assumptions/19.md). -/
def State.breakResets (s : State) : Bool :=
  s.startup.resetPending && s.table.line.any LineItem.isResetReply && !s.link.tx.sendsReset

/-- A break; the detector takes none while the line is still at space after one (R151, R152). -/
def State.takeBreak (s : State) : State :=
  if s.link.breakHeld then s
  else if s.breakResets then s.breakLink.softReset else s.breakLink

/-- RXD returns to mark after a break (R151). -/
def State.endBreak (s : State) : State := { s with link := { s.link with breakHeld := false } }

end Sys2Proof.Machine
end

