-- ==== Sys2Proof/Machine/Starting.lean ====
section
/-!
DEFINITION. The START request, whose channels start each in its own event, with the events of the part that fall between them
(R49). A START step of the plan starts its channels within the one event of the plan's steps (`ownStart`; R132).
-/

namespace Sys2Proof.Machine

/-- An event that falls between two starts, at whose end the arbiter chooses as at that of any event (R154). The start of a channel
is not one. -/
def betweenStarts : StartStep → State → State
  | .channel _, s => s
  | .tick m, s => s.event (fun s => s.makeTick m)
  | .tickDelivery c g, s => s.event (fun s => s.deliver c g)
  | .sample levels order, s => s.event (fun s => s.takeSample levels order)
  | .loadCompletion cells, s => s.event (fun s => s.completeLoad cells)

/-- The channels named start in list order; with each, the state it reaches. -/
def State.startAll : List (Fin 4) → State → State × List (Fin 4 × ChanState)
  | [], s => (s, [])
  | c :: cs, s =>
    let t := State.startChannel c s
    let r := State.startAll cs t
    (r.1, (c, (t.channel c).state) :: r.2)

/-- The course of a START whose channels `left` have not started. At the end of the course those still left start; what stands
in the course after the last start does not belong to the START. DESIGN CHOICE: a start itself makes no choice of the arbiter, so
the notices of the starts wait for the end of the next event of the course or of the START (notes/assumptions/12.md). -/
def State.startCourse : List StartStep → List (Fin 4) → State → State × List (Fin 4 × ChanState)
  | [], left, s => State.startAll left s
  | p :: course, left, s =>
    if left.isEmpty then (s, [])
    else
      match p with
      | .channel c =>
        if left.contains c then
          let t := State.startChannel c s
          let r := State.startCourse course (left.erase c) t
          (r.1, (c, (t.channel c).state) :: r.2)
        else State.startCourse course left s
      | p => State.startCourse course left (betweenStarts p s)

/-- The reply data of a START: the state each named channel reached. -/
def reachedStates (mask : Byte) (reached : List (Fin 4 × ChanState)) : List Byte :=
  (named mask).flatMap (fun c => u8 ((reached.lookup c).getD .stopped).num)

/-- START (R49): checked whole first, then the starts. -/
def ownStartIn (course : List StartStep) (mask : Byte) (s : State) : Owned :=
  if !maskOk mask then .refused s .range
  else if (named mask).any (fun c => (s.channel c).isRunning) then .refused s .alreadyRunning
  else
    let r := State.startCourse course (named mask) s
    .reply r.1 .ok (reachedStates mask r.2)

end Sys2Proof.Machine
end

