-- ==== Sys2Proof/Machine/Receiver.lean ====
section
/-!
DEFINITION. The receiver: what each good frame does at its dispatch, and how the bytes of RXD make frames (spec 08, "The
receiver"; spec 09, "Generic checks").
-/

namespace Sys2Proof.Machine

/-! ### Dispatch of good frames (R147) -/

/-- A good request or acknowledgement frame is counted at its dispatch (R147). -/
def State.countGood (s : State) : State := s.count (fun c => { c with goodFrames := satInc c.goodFrames })

/-- A good request frame of a code of the catalogue (R147, R161). -/
def onRequest {α : Type} (tag code : Byte) (exempt : Bool) (body : Body α) (owner : α → State → Owned) (s : State) : State :=
  takeRequest tag code exempt body owner s.countGood

/-- A good request frame whose body is empty or has an unknown code (R162). -/
def onUnknown (tag : Byte) (body : List Byte) (s : State) : State := refuseUnknown tag body s.countGood

/-- A good acknowledgement frame; its body is ignored (R147). -/
def onAcknowledgement (n : Byte) (s : State) : State := s.countGood.acknowledge n

/-- A good frame of another kind (R147). -/
def onKindError (s : State) : State :=
  let s1 := s.count (fun c => { c with kindErrors := satInc c.kindErrors })
  s1.linkFault 3 s1.link.counters.kindErrors

/-- A frame whose check does not match (R146). -/
def onCheckError (s : State) : State :=
  let s1 := s.count (fun c => { c with checkErrors := satInc c.checkErrors })
  s1.linkFault 1 s1.link.counters.checkErrors

/-- A LENGTH byte outside 2–250 (R145). -/
def onLengthError (s : State) : State :=
  let s1 := s.count (fun c => { c with lengthErrors := satInc c.lengthErrors })
  s1.linkFault 0 s1.link.counters.lengthErrors

/-- What the frame that a command stands for does when it is dispatched; the other commands are no frames. -/
def dispatch (i : Instr) (s : State) : State :=
  match i with
  | .createSegment t b => onRequest t 0x10 false b ownCreate s
  | .writeSamples t b => onRequest t 0x11 false b ownWrite s
  | .sealSegment t b => onRequest t 0x12 false b ownSeal s
  | .deleteSegment t b => onRequest t 0x13 false b ownDelete s
  | .getSegment t b => onRequest t 0x14 true b ownGetSegment s
  | .getPool t b => onRequest t 0x15 true b ownGetPool s
  | .configureChannel t b => onRequest t 0x20 false b ownConfigure s
  | .enqueue t b => onRequest t 0x21 false b ownEnqueue s
  | .start t r => onRequest t 0x22 false r.body (ownStartIn r.course) s
  | .stopImmediate t b => onRequest t 0x23 false b ownStopImmediate s
  | .stopAtPassEnd t m => onRequest t 0x23 false (.fields m) ownStopAtPassEnd s
  | .release t b => onRequest t 0x24 false b ownRelease s
  | .flush t b => onRequest t 0x25 false b ownFlush s
  | .getChannel t b => onRequest t 0x26 true b ownGetChannel s
  | .setRate t b => onRequest t 0x30 false b ownSetRate s
  | .runRates t b => onRequest t 0x31 false b ownRunRates s
  | .haltRates t b => onRequest t 0x32 false b ownHaltRates s
  | .getRates t b => onRequest t 0x33 true b ownGetRates s
  | .setInputs t b => onRequest t 0x40 false b ownSetInputs s
  | .defineTrigger t b => onRequest t 0x41 false b ownDefineTrigger s
  | .fire t b => onRequest t 0x42 false b ownFire s
  | .getTrigger t b => onRequest t 0x43 true b ownGetTrigger s
  | .getInputs t b => onRequest t 0x44 true b ownGetInputs s
  | .save t b => onRequest t 0x60 false b (ownSave t) s
  | .load t b => onRequest t 0x61 false b (ownLoad t) s
  | .erase t b => onRequest t 0x62 false b (ownErase t) s
  | .setLock t b => onRequest t 0x63 false b (ownSetLock t) s
  | .freeze t b => onRequest t 0x64 false b ownFreeze s
  | .savePlan t b => onRequest t 0x65 false b (ownSavePlan t) s
  | .clearPlan t b => onRequest t 0x66 false b (ownClearPlan t) s
  | .cancel t b => onRequest t 0x67 false b ownCancel s
  | .getSlot t b => onRequest t 0x68 true b ownGetSlot s
  | .getStore t b => onRequest t 0x69 true b ownGetStore s
  | .getPlan t b => onRequest t 0x6A true b ownGetPlan s
  | .reset t b => onRequest t 0x70 false b ownReset s
  | .abortPlan t b => onRequest t 0x71 true b ownAbortPlan s
  | .setNotices t b => onRequest t 0x78 false b ownSetNotices s
  | .getLink t b => onRequest t 0x7C true b ownGetLink s
  | .getPart t b => onRequest t 0x7D true b ownGetPart s
  | .unknownRequest t body => onUnknown t body s
  | .noticeAcknowledgement n _ => onAcknowledgement n s
  | .kindError _ _ _ => onKindError s
  | .lengthError _ | .checkError _ _ | .gapError | .stopBitError | .huntByte _ | .lineBreak | .replyFrameEnd
  | .noticeFrameEnd | .retransmitTimerExpiry | .tick _ | .tickDelivery _ _ | .sample _ _ | .blockTransfer _
  | .saveCompletion | .loadCompletion _ | .eraseCompletion | .setLockCompletion | .savePlanCompletion
  | .clearPlanCompletion | .scanCompletion | .powerOn _ | .powerLoss | .resetnAsserted | .pinReset _ | .syncByte
  | .frameByte _ | .rxdReturnsToMark => s

/-! ### Bytes (the receiver's table) -/

/-- The receiver returns to HUNT at the end of a frame, its gap timer stopped (R146, R148). -/
def State.endFrame (s : State) : State := s.setReceiver .hunt .stopped

/-- A good frame with this content is dispatched by its KIND (R147). -/
def dispatchContent (content : List Byte) (s : State) : State :=
  match decodeFrame content with
  | some i => dispatch i s
  | none => s

/-- A frame whose check bytes are in: it is dispatched or rejected (R146). -/
def closeFrame (content : List Byte) (check : Half) (s : State) : State :=
  if check = frameCheck content then dispatchContent content s.endFrame else onCheckError s.endFrame

/-- One byte at the receiver (R144–R148). -/
def State.rxByte (b : Byte) (s : State) : State :=
  match s.link.receiver with
  | .hunt =>
    if b = syncValue then s.setReceiver .length (.running 0)
    else s.count (fun c => { c with huntBytes := satInc c.huntBytes })
  | .length => if goodLength b then s.setReceiver (.body b.toNat []) (.running 0) else onLengthError s.endFrame
  | .body len got =>
    if got.length + 1 < len then s.setReceiver (.body len (got ++ [b])) (.running 0)
    else s.setReceiver (.check len (got ++ [b]) none) (.running 0)
  | .check len got none => s.setReceiver (.check len got (some b)) (.running 0)
  | .check _ got (some lo) => closeFrame got (half lo b) s

/-- An event of RXD: none reaches the receiver while the line is held at space after a break (R151). -/
def State.lineEvent (s : State) (f : State → State) : State := if s.link.breakHeld then s else s.event f

/-- A byte is taken from RXD, as one event. -/
def State.takeByte (b : Byte) (s : State) : State := s.lineEvent (State.rxByte b)

/-- Bytes are taken from RXD one after another. -/
def State.takeBytes : List Byte → State → State
  | [], s => s
  | b :: bs, s => State.takeBytes bs (s.takeByte b)

/-- What the receiver has taken is a beginning of the frame with this content and check. -/
def Receiver.begins (content : List Byte) (check : Half) : Receiver → Bool
  | .hunt => true
  | .length => true
  | .body len got => len = content.length && got.isPrefixOf content
  | .check len got first => len = content.length && got = content && (first = none || first = some (loByte check))

/-- A whole frame arrives on RXD, its last check byte being taken in this event: the receiver's end of the frame and `act`. Where
the receiver is inside another frame, the bytes are taken there one by one (notes/assumptions/4.md). -/
def State.receive (s : State) (content : List Byte) (check : Half) (act : State → State) : State :=
  if s.link.receiver.begins content check then s.lineEvent (fun s => act s.endFrame)
  else State.takeBytes (frameWith content check) s

/-- The content of the good frame a command stands for. -/
def frameContent (i : Instr) : List Byte := i.content?.getD []

/-- The frame of a command arrives whole and good. -/
def State.receiveFrame (s : State) (i : Instr) : State :=
  s.receive (frameContent i) (frameCheck (frameContent i)) (dispatch i)

/-- The frame of a START arrives; its dispatch takes the course. -/
def State.receiveStart (s : State) (tag : Byte) (run : StartRun) : State :=
  let content := frameContent (.start tag ⟨run.body, []⟩)
  s.receive content (frameCheck content) (dispatch (.start tag run))

/-- A frame with a LENGTH outside 2–250 (R145): SYNC, unless the receiver has taken it, and the LENGTH byte. -/
def State.receiveLength (s : State) (v : Byte) : State :=
  match s.link.receiver with
  | .length => s.takeByte v
  | _ => State.takeBytes [syncValue, v] s

/-- The gap timer expires: the partial frame is discarded; in HUNT it does not run (R148). -/
def State.expireGap (s : State) : State :=
  match s.link.receiver with
  | .hunt => s
  | _ =>
    let s1 := s.endFrame.count (fun c => { c with gapErrors := satInc c.gapErrors })
    s1.linkFault 2 s1.link.counters.gapErrors

/-- A character with its stop bit at space (R149). -/
def State.dropCharacter (s : State) : State := s.count (fun c => { c with stopBitErrors := satInc c.stopBitErrors })

end Sys2Proof.Machine
end

