-- ==== Sys2Proof/Machine/Clock.lean ====
section
/-!
DEFINITION. One period of REFCLK, which passes when no command waits (notes/assumptions/7.md). A count stands at its last value
until the event that ends it is commanded.
-/

namespace Sys2Proof.Machine

/-- A generator after one reference period (R59). -/
def Generator.period (x : Generator) : Generator :=
  if x.running ∧ x.elapsed + 1 < x.divider then { x with elapsed := x.elapsed + 1 } else x

/-- The sampler after one reference period (R69). -/
def TriggerUnit.period (u : TriggerUnit) : TriggerUnit :=
  if u.elapsed + 1 < u.divider then { u with elapsed := u.elapsed + 1 } else u

/-- A job after one reference period: the work of the ACTIVE job decreases (R98, R109). -/
def Job.period (j : Job) : Job :=
  if j.isActive ∧ 1 < j.remaining then { j with remaining := j.remaining - 1 } else j

/-- A timer after one reference period. -/
def Timer.period (limit : Nat) : Timer → Timer
  | .stopped => .stopped
  | .running e => if e + 1 < limit then .running (e + 1) else .running e

/-- One reference period of a working part. -/
def State.period (s : State) : State :=
  if s.alive then
    { s with
      generators := Vector.ofFn (fun g => s.generators[g].period)
      trig := s.trig.period
      jobs := s.jobs.map Job.period
      link := { s.link with gap := s.link.gap.period Config.gapTime }
      notices := { s.notices with timer := s.notices.timer.period Config.retransmitTime } }
  else s

end Sys2Proof.Machine
end

