-- ==== Sys2Proof/Machine/ChannelCommands.lean ====
section
/-!
DEFINITION. The meanings of the channel requests (spec 02): the frame arrives, and at its dispatch the request is refused
or taken (`dispatch`, `takeRequest`) and its owner (`own…`) acts.
-/

namespace Sys2Proof.Machine

/-- CONFIGURE_CHANNEL (R26). The owner is `ownConfigure`. -/
def execConfigureChannel (tag : Byte) (body : Body ConfigFields) (s : State) : Host.Outcome State Fault Refusal :=
  .next (s.receiveFrame (.configureChannel tag body))

/-- ENQUEUE (R48). The owner is `ownEnqueue`. -/
def execEnqueue (tag : Byte) (body : Body EnqueueFields) (s : State) : Host.Outcome State Fault Refusal :=
  .next (s.receiveFrame (.enqueue tag body))

/-- START (R49). The owner is `ownStartIn`. -/
def execStart (tag : Byte) (run : StartRun) (s : State) : Host.Outcome State Fault Refusal :=
  .next (s.receiveStart tag run)

/-- STOP_IMMEDIATE (R50). The owner is `ownStopImmediate`. -/
def execStopImmediate (tag : Byte) (body : Body StopFields) (s : State) : Host.Outcome State Fault Refusal :=
  .next (s.receiveFrame (.stopImmediate tag body))

/-- STOP_AT_PASS_END (R51). The owner is `ownStopAtPassEnd`. -/
def execStopAtPassEnd (tag mask : Byte) (s : State) : Host.Outcome State Fault Refusal :=
  .next (s.receiveFrame (.stopAtPassEnd tag mask))

/-- RELEASE (R52). The owner is `ownRelease`. -/
def execRelease (tag : Byte) (body : Body Byte) (s : State) : Host.Outcome State Fault Refusal :=
  .next (s.receiveFrame (.release tag body))

/-- FLUSH (R53). The owner is `ownFlush`. -/
def execFlush (tag : Byte) (body : Body Byte) (s : State) : Host.Outcome State Fault Refusal :=
  .next (s.receiveFrame (.flush tag body))

/-- GET_CHANNEL (R54). The owner is `ownGetChannel`. -/
def execGetChannel (tag : Byte) (body : Body Byte) (s : State) : Host.Outcome State Fault Refusal :=
  .next (s.receiveFrame (.getChannel tag body))

end Sys2Proof.Machine
end

