-- ==== Sys2Proof/Machine/GeneratorCommands.lean ====
section
/-!
DEFINITION. The meanings of the generator requests (spec 03): the frame arrives, and at its dispatch the request is refused
or taken (`dispatch`, `takeRequest`) and its owner (`own…`) acts.
-/

namespace Sys2Proof.Machine

/-- SET_RATE (R62). The owner is `ownSetRate`. -/
def execSetRate (tag : Byte) (body : Body RateFields) (s : State) : Host.Outcome State Fault Refusal :=
  .next (s.receiveFrame (.setRate tag body))

/-- RUN_RATES (R64). The owner is `ownRunRates`. -/
def execRunRates (tag : Byte) (body : Body Byte) (s : State) : Host.Outcome State Fault Refusal :=
  .next (s.receiveFrame (.runRates tag body))

/-- HALT_RATES (R65). The owner is `ownHaltRates`. -/
def execHaltRates (tag : Byte) (body : Body Byte) (s : State) : Host.Outcome State Fault Refusal :=
  .next (s.receiveFrame (.haltRates tag body))

/-- GET_RATES (R67). The owner is `ownGetRates`. -/
def execGetRates (tag : Byte) (body : Body Unit) (s : State) : Host.Outcome State Fault Refusal :=
  .next (s.receiveFrame (.getRates tag body))

end Sys2Proof.Machine
end

