-- ==== Sys2Proof/Machine/LineEvents.lean ====
section
/-!
DEFINITION. The meanings of the other frames, of the bytes and faults of RXD, and of the ends of transmissions (spec 08–10).
-/

namespace Sys2Proof.Machine

/-- UNKNOWN_REQUEST (R162). -/
def execUnknownRequest (tag : Byte) (body : List Byte) (s : State) : Host.Outcome State Fault Refusal :=
  .next (s.receiveFrame (.unknownRequest tag body))

/-- NOTICE_ACKNOWLEDGEMENT (R186). -/
def execNoticeAcknowledgement (seq : Byte) (body : List Byte) (s : State) : Host.Outcome State Fault Refusal :=
  .next (s.receiveFrame (.noticeAcknowledgement seq body))

/-- LENGTH_ERROR (R145). -/
def execLengthError (value : Byte) (s : State) : Host.Outcome State Fault Refusal := .next (s.receiveLength value)

/-- CHECK_ERROR (R146). -/
def execCheckError (content : List Byte) (check : Half) (s : State) : Host.Outcome State Fault Refusal :=
  .next (s.receive content check (closeFrame content check))

/-- KIND_ERROR (R147). -/
def execKindError (kind tag : Byte) (body : List Byte) (s : State) : Host.Outcome State Fault Refusal :=
  .next (s.receiveFrame (.kindError kind tag body))

/-- GAP_ERROR (R148). -/
def execGapError (s : State) : Host.Outcome State Fault Refusal := .next (s.event State.expireGap)

/-- STOP_BIT_ERROR (R149). -/
def execStopBitError (s : State) : Host.Outcome State Fault Refusal := .next (s.lineEvent State.dropCharacter)

/-- HUNT_BYTE (R144). -/
def execHuntByte (value : Byte) (s : State) : Host.Outcome State Fault Refusal := .next (s.takeByte value)

/-- BREAK (R152). -/
def execLineBreak (s : State) : Host.Outcome State Fault Refusal := .next (s.event State.takeBreak)

/-- SYNC_BYTE (R144): the byte B7h. -/
def execSyncByte (s : State) : Host.Outcome State Fault Refusal := .next (s.takeByte syncValue)

/-- FRAME_BYTE (R145, R146, R148). -/
def execFrameByte (value : Byte) (s : State) : Host.Outcome State Fault Refusal := .next (s.takeByte value)

/-- RXD_RETURNS_TO_MARK (R151). -/
def execRxdReturnsToMark (s : State) : Host.Outcome State Fault Refusal := .next (s.event State.endBreak)

/-- REPLY_FRAME_END (R155, R170, R140). -/
def execReplyFrameEnd (s : State) : Host.Outcome State Fault Refusal := .next (s.event State.endReply)

/-- NOTICE_FRAME_END (R185). -/
def execNoticeFrameEnd (s : State) : Host.Outcome State Fault Refusal := .next (s.event State.endNotice)

/-- RETRANSMIT_TIMER_EXPIRY (R188). -/
def execRetransmitTimerExpiry (s : State) : Host.Outcome State Fault Refusal := .next (s.event State.expireTimer)

end Sys2Proof.Machine
end

