-- ==== Sys2Proof/Machine/LinkCommands.lean ====
section
/-!
DEFINITION. The meanings of the start-up, notice and link requests (spec 07–10): the frame arrives, and at its dispatch the request is refused
or taken (`dispatch`, `takeRequest`) and its owner (`own…`) acts.
-/

namespace Sys2Proof.Machine

/-- RESET (R139). The owner is `ownReset`. -/
def execReset (tag : Byte) (body : Body Unit) (s : State) : Host.Outcome State Fault Refusal :=
  .next (s.receiveFrame (.reset tag body))

/-- ABORT_PLAN (R136). The owner is `ownAbortPlan`. -/
def execAbortPlan (tag : Byte) (body : Body Unit) (s : State) : Host.Outcome State Fault Refusal :=
  .next (s.receiveFrame (.abortPlan tag body))

/-- SET_NOTICES (R191). The owner is `ownSetNotices`. -/
def execSetNotices (tag : Byte) (body : Body NoticesFields) (s : State) : Host.Outcome State Fault Refusal :=
  .next (s.receiveFrame (.setNotices tag body))

/-- GET_LINK (R159). The owner is `ownGetLink`. -/
def execGetLink (tag : Byte) (body : Body Byte) (s : State) : Host.Outcome State Fault Refusal :=
  .next (s.receiveFrame (.getLink tag body))

/-- GET_PART (R177). The owner is `ownGetPart`. -/
def execGetPart (tag : Byte) (body : Body Unit) (s : State) : Host.Outcome State Fault Refusal :=
  .next (s.receiveFrame (.getPart tag body))

end Sys2Proof.Machine
end

