-- ==== Sys2Proof/Machine/PartEvents.lean ====
section
/-!
DEFINITION. The meanings of the part's own events: ticks, samples, store jobs, the scan, power and resets (spec 02–07).
-/

namespace Sys2Proof.Machine

/-- TICK (R59). -/
def execTick (made : TickMade) (s : State) : Host.Outcome State Fault Refusal :=
  .next (s.event (fun s => s.makeTick made))

/-- TICK_DELIVERY (R35). -/
def execTickDelivery (channel generator : Fin 4) (s : State) : Host.Outcome State Fault Refusal :=
  .next (s.event (fun s => s.deliver channel generator))

/-- SAMPLE (R69). -/
def execSample (levels : Byte) (order : List (Fin 8)) (s : State) : Host.Outcome State Fault Refusal :=
  .next (s.event (fun s => s.takeSample levels order))

/-- BLOCK_TRANSFER (R111). -/
def execBlockTransfer (cells : List (Nat × Sample)) (s : State) : Host.Outcome State Fault Refusal :=
  .next (s.event (fun s => s.transferBlock cells))

/-- SAVE_COMPLETION (R115). -/
def execSaveCompletion (s : State) : Host.Outcome State Fault Refusal := .next (s.event State.completeSave)

/-- LOAD_COMPLETION (R116). -/
def execLoadCompletion (cells : List (Nat × Sample)) (s : State) : Host.Outcome State Fault Refusal :=
  .next (s.event (fun s => s.completeLoad cells))

/-- ERASE_COMPLETION (R117). -/
def execEraseCompletion (s : State) : Host.Outcome State Fault Refusal := .next (s.event State.completeErase)

/-- SET_LOCK_COMPLETION (R118). -/
def execSetLockCompletion (s : State) : Host.Outcome State Fault Refusal := .next (s.event State.completeSetLock)

/-- SAVE_PLAN_COMPLETION (R119). -/
def execSavePlanCompletion (s : State) : Host.Outcome State Fault Refusal := .next (s.event State.completeSavePlan)

/-- CLEAR_PLAN_COMPLETION (R119). -/
def execClearPlanCompletion (s : State) : Host.Outcome State Fault Refusal := .next (s.event State.completeClearPlan)

/-- SCAN_COMPLETION (R129, R131). -/
def execScanCompletion (s : State) : Host.Outcome State Fault Refusal := .next (s.event State.completeScan)

/-- POWER_ON (R127, R128). -/
def execPowerOn (straps : BitVec 2) (s : State) : Host.Outcome State Fault Refusal := .next (s.powerUp straps)

/-- POWER_LOSS (R99). -/
def execPowerLoss (s : State) : Host.Outcome State Fault Refusal := .next s.powerDown

/-- RESETN_ASSERTED (R127). -/
def execResetnAsserted (s : State) : Host.Outcome State Fault Refusal := .next s.assertReset

/-- PIN_RESET (R127, R128). -/
def execPinReset (straps : BitVec 2) (s : State) : Host.Outcome State Fault Refusal := .next (s.releaseReset straps)

end Sys2Proof.Machine
end

