-- ==== Sys2Proof/Machine/PoolCommands.lean ====
section
/-!
DEFINITION. The meanings of the Segment Pool requests (spec 01): the frame arrives, and at its dispatch the request is refused
or taken (`dispatch`, `takeRequest`) and its owner (`own…`) acts.
-/

namespace Sys2Proof.Machine

/-- CREATE_SEGMENT (R17). The owner is `ownCreate`. -/
def execCreateSegment (tag : Byte) (body : Body CreateFields) (s : State) : Host.Outcome State Fault Refusal :=
  .next (s.receiveFrame (.createSegment tag body))

/-- WRITE_SAMPLES (R18). The owner is `ownWrite`. -/
def execWriteSamples (tag : Byte) (body : Body WriteFields) (s : State) : Host.Outcome State Fault Refusal :=
  .next (s.receiveFrame (.writeSamples tag body))

/-- SEAL_SEGMENT (R19). The owner is `ownSeal`. -/
def execSealSegment (tag : Byte) (body : Body Byte) (s : State) : Host.Outcome State Fault Refusal :=
  .next (s.receiveFrame (.sealSegment tag body))

/-- DELETE_SEGMENT (R20). The owner is `ownDelete`. -/
def execDeleteSegment (tag : Byte) (body : Body Byte) (s : State) : Host.Outcome State Fault Refusal :=
  .next (s.receiveFrame (.deleteSegment tag body))

/-- GET_SEGMENT (R22). The owner is `ownGetSegment`. -/
def execGetSegment (tag : Byte) (body : Body GetSegmentFields) (s : State) : Host.Outcome State Fault Refusal :=
  .next (s.receiveFrame (.getSegment tag body))

/-- GET_POOL (R23). The owner is `ownGetPool`. -/
def execGetPool (tag : Byte) (body : Body Unit) (s : State) : Host.Outcome State Fault Refusal :=
  .next (s.receiveFrame (.getPool tag body))

end Sys2Proof.Machine
end

