-- ==== Sys2Proof/Machine/StoreCommands.lean ====
section
/-!
DEFINITION. The meanings of the store requests (spec 05, 06): the frame arrives, and at its dispatch the request is refused
or taken (`dispatch`, `takeRequest`) and its owner (`own…`) acts.
-/

namespace Sys2Proof.Machine

/-- SAVE (R106). The owner is `ownSave`. -/
def execSave (tag : Byte) (body : Body SaveFields) (s : State) : Host.Outcome State Fault Refusal :=
  .next (s.receiveFrame (.save tag body))

/-- LOAD (R107). The owner is `ownLoad`. -/
def execLoad (tag : Byte) (body : Body LoadFields) (s : State) : Host.Outcome State Fault Refusal :=
  .next (s.receiveFrame (.load tag body))

/-- ERASE (R105). The owner is `ownErase`. -/
def execErase (tag : Byte) (body : Body Byte) (s : State) : Host.Outcome State Fault Refusal :=
  .next (s.receiveFrame (.erase tag body))

/-- SET_LOCK (R92). The owner is `ownSetLock`. -/
def execSetLock (tag : Byte) (body : Body LockFields) (s : State) : Host.Outcome State Fault Refusal :=
  .next (s.receiveFrame (.setLock tag body))

/-- FREEZE (R93). The owner is `ownFreeze`. -/
def execFreeze (tag : Byte) (body : Body Byte) (s : State) : Host.Outcome State Fault Refusal :=
  .next (s.receiveFrame (.freeze tag body))

/-- SAVE_PLAN (R97). The owner is `ownSavePlan`. -/
def execSavePlan (tag : Byte) (body : Body PlanFields) (s : State) : Host.Outcome State Fault Refusal :=
  .next (s.receiveFrame (.savePlan tag body))

/-- CLEAR_PLAN (R105). The owner is `ownClearPlan`. -/
def execClearPlan (tag : Byte) (body : Body Unit) (s : State) : Host.Outcome State Fault Refusal :=
  .next (s.receiveFrame (.clearPlan tag body))

/-- CANCEL (R120). The owner is `ownCancel`. -/
def execCancel (tag : Byte) (body : Body Byte) (s : State) : Host.Outcome State Fault Refusal :=
  .next (s.receiveFrame (.cancel tag body))

/-- GET_SLOT (R100). The owner is `ownGetSlot`. -/
def execGetSlot (tag : Byte) (body : Body Byte) (s : State) : Host.Outcome State Fault Refusal :=
  .next (s.receiveFrame (.getSlot tag body))

/-- GET_STORE (R101). The owner is `ownGetStore`. -/
def execGetStore (tag : Byte) (body : Body (Option Byte)) (s : State) : Host.Outcome State Fault Refusal :=
  .next (s.receiveFrame (.getStore tag body))

/-- GET_PLAN (R102). The owner is `ownGetPlan`. -/
def execGetPlan (tag : Byte) (body : Body Unit) (s : State) : Host.Outcome State Fault Refusal :=
  .next (s.receiveFrame (.getPlan tag body))

end Sys2Proof.Machine
end

