-- ==== Sys2Proof/Machine/TriggerCommands.lean ====
section
/-!
DEFINITION. The meanings of the trigger requests (spec 04): the frame arrives, and at its dispatch the request is refused
or taken (`dispatch`, `takeRequest`) and its owner (`own…`) acts.
-/

namespace Sys2Proof.Machine

/-- SET_INPUTS (R75). The owner is `ownSetInputs`. -/
def execSetInputs (tag : Byte) (body : Body InputsFields) (s : State) : Host.Outcome State Fault Refusal :=
  .next (s.receiveFrame (.setInputs tag body))

/-- DEFINE_TRIGGER (R79). The owner is `ownDefineTrigger`. -/
def execDefineTrigger (tag : Byte) (body : Body TriggerFields) (s : State) : Host.Outcome State Fault Refusal :=
  .next (s.receiveFrame (.defineTrigger tag body))

/-- FIRE (R77). The owner is `ownFire`. -/
def execFire (tag : Byte) (body : Body Byte) (s : State) : Host.Outcome State Fault Refusal :=
  .next (s.receiveFrame (.fire tag body))

/-- GET_TRIGGER (R84). The owner is `ownGetTrigger`. -/
def execGetTrigger (tag : Byte) (body : Body Byte) (s : State) : Host.Outcome State Fault Refusal :=
  .next (s.receiveFrame (.getTrigger tag body))

/-- GET_INPUTS (R85). The owner is `ownGetInputs`. -/
def execGetInputs (tag : Byte) (body : Body Unit) (s : State) : Host.Outcome State Fault Refusal :=
  .next (s.receiveFrame (.getInputs tag body))

end Sys2Proof.Machine
end

