-- ==== Sys2Proof/Machine/Dispatch.lean ====
section
/-!
DEFINITION. Which meaning each command has: one arm per row of spec/opcode_table.json, in the table's order.
-/

namespace Sys2Proof.Machine

def exec (i : Instr) (s : State) : Host.Outcome State Fault Refusal :=
  match i with
  | .createSegment tag body => Sys2Proof.Machine.execCreateSegment tag body s
  | .writeSamples tag body => Sys2Proof.Machine.execWriteSamples tag body s
  | .sealSegment tag body => Sys2Proof.Machine.execSealSegment tag body s
  | .deleteSegment tag body => Sys2Proof.Machine.execDeleteSegment tag body s
  | .getSegment tag body => Sys2Proof.Machine.execGetSegment tag body s
  | .getPool tag body => Sys2Proof.Machine.execGetPool tag body s
  | .configureChannel tag body => Sys2Proof.Machine.execConfigureChannel tag body s
  | .enqueue tag body => Sys2Proof.Machine.execEnqueue tag body s
  | .start tag run => Sys2Proof.Machine.execStart tag run s
  | .stopImmediate tag body => Sys2Proof.Machine.execStopImmediate tag body s
  | .stopAtPassEnd tag mask => Sys2Proof.Machine.execStopAtPassEnd tag mask s
  | .release tag body => Sys2Proof.Machine.execRelease tag body s
  | .flush tag body => Sys2Proof.Machine.execFlush tag body s
  | .getChannel tag body => Sys2Proof.Machine.execGetChannel tag body s
  | .setRate tag body => Sys2Proof.Machine.execSetRate tag body s
  | .runRates tag body => Sys2Proof.Machine.execRunRates tag body s
  | .haltRates tag body => Sys2Proof.Machine.execHaltRates tag body s
  | .getRates tag body => Sys2Proof.Machine.execGetRates tag body s
  | .setInputs tag body => Sys2Proof.Machine.execSetInputs tag body s
  | .defineTrigger tag body => Sys2Proof.Machine.execDefineTrigger tag body s
  | .fire tag body => Sys2Proof.Machine.execFire tag body s
  | .getTrigger tag body => Sys2Proof.Machine.execGetTrigger tag body s
  | .getInputs tag body => Sys2Proof.Machine.execGetInputs tag body s
  | .save tag body => Sys2Proof.Machine.execSave tag body s
  | .load tag body => Sys2Proof.Machine.execLoad tag body s
  | .erase tag body => Sys2Proof.Machine.execErase tag body s
  | .setLock tag body => Sys2Proof.Machine.execSetLock tag body s
  | .freeze tag body => Sys2Proof.Machine.execFreeze tag body s
  | .savePlan tag body => Sys2Proof.Machine.execSavePlan tag body s
  | .clearPlan tag body => Sys2Proof.Machine.execClearPlan tag body s
  | .cancel tag body => Sys2Proof.Machine.execCancel tag body s
  | .getSlot tag body => Sys2Proof.Machine.execGetSlot tag body s
  | .getStore tag body => Sys2Proof.Machine.execGetStore tag body s
  | .getPlan tag body => Sys2Proof.Machine.execGetPlan tag body s
  | .reset tag body => Sys2Proof.Machine.execReset tag body s
  | .abortPlan tag body => Sys2Proof.Machine.execAbortPlan tag body s
  | .setNotices tag body => Sys2Proof.Machine.execSetNotices tag body s
  | .getLink tag body => Sys2Proof.Machine.execGetLink tag body s
  | .getPart tag body => Sys2Proof.Machine.execGetPart tag body s
  | .unknownRequest tag body => Sys2Proof.Machine.execUnknownRequest tag body s
  | .noticeAcknowledgement seq body => Sys2Proof.Machine.execNoticeAcknowledgement seq body s
  | .lengthError value => Sys2Proof.Machine.execLengthError value s
  | .checkError content check => Sys2Proof.Machine.execCheckError content check s
  | .kindError kind tag body => Sys2Proof.Machine.execKindError kind tag body s
  | .gapError => Sys2Proof.Machine.execGapError s
  | .stopBitError => Sys2Proof.Machine.execStopBitError s
  | .huntByte value => Sys2Proof.Machine.execHuntByte value s
  | .lineBreak => Sys2Proof.Machine.execLineBreak s
  | .replyFrameEnd => Sys2Proof.Machine.execReplyFrameEnd s
  | .noticeFrameEnd => Sys2Proof.Machine.execNoticeFrameEnd s
  | .retransmitTimerExpiry => Sys2Proof.Machine.execRetransmitTimerExpiry s
  | .tick made => Sys2Proof.Machine.execTick made s
  | .tickDelivery channel generator => Sys2Proof.Machine.execTickDelivery channel generator s
  | .sample levels order => Sys2Proof.Machine.execSample levels order s
  | .blockTransfer cells => Sys2Proof.Machine.execBlockTransfer cells s
  | .saveCompletion => Sys2Proof.Machine.execSaveCompletion s
  | .loadCompletion cells => Sys2Proof.Machine.execLoadCompletion cells s
  | .eraseCompletion => Sys2Proof.Machine.execEraseCompletion s
  | .setLockCompletion => Sys2Proof.Machine.execSetLockCompletion s
  | .savePlanCompletion => Sys2Proof.Machine.execSavePlanCompletion s
  | .clearPlanCompletion => Sys2Proof.Machine.execClearPlanCompletion s
  | .scanCompletion => Sys2Proof.Machine.execScanCompletion s
  | .powerOn straps => Sys2Proof.Machine.execPowerOn straps s
  | .powerLoss => Sys2Proof.Machine.execPowerLoss s
  | .resetnAsserted => Sys2Proof.Machine.execResetnAsserted s
  | .pinReset straps => Sys2Proof.Machine.execPinReset straps s
  | .syncByte => Sys2Proof.Machine.execSyncByte s
  | .frameByte value => Sys2Proof.Machine.execFrameByte value s
  | .rxdReturnsToMark => Sys2Proof.Machine.execRxdReturnsToMark s

end Sys2Proof.Machine
end

