-- ==== Sys2Proof/Machine/Step.lean ====
section
/-!
DEFINITION. One step: the command at the front of the queue, or one reference period when none waits.
-/

namespace Sys2Proof.Machine

/-- The command at the front of `pending` runs with the queue's rest; on an empty queue one period of REFCLK passes
(notes/assumptions/7.md). -/
def step (s : State) : Host.Outcome State Fault Refusal :=
  match s.pending with
  | i :: rest => exec i { s with pending := rest }
  | [] => .next s.period

/-- `s` with the command that a table word spells at the front of its queue; the table gives no row any bits, so no word spells
one (notes/assumptions/29.md). -/
def State.withFetchWord (s : State) (nbits w : Nat) : State :=
  match Sys2Proof.decodeTableWord nbits w with
  | some i => { s with pending := i :: s.pending }
  | none => s

end Sys2Proof.Machine
end

