-- ==== Sys2Proof/Safety.lean ====
section
/-!
DEFINITION. What counts as a sound state of the SQ4, and the words statements use: when a request is taken, and what the taking and
the answer change in the link and the Request Table.
-/

namespace Sys2Proof.Machine

/-! ### Taking and answering -/

/-- The part takes the next frame from RXD: it works, the line is not held by a break, the receiver hunts. -/
def State.listening (s : State) : Bool := s.alive && !s.link.breakHeld && decide (s.link.receiver = .hunt)

/-- A well-formed request under this tag passes generic checks 3 to 5 (R163–R165). -/
def State.admits (s : State) (tag : Byte) (exempt : Bool) : Bool :=
  !s.table.entries.any (Pending.holds tag) && decide (s.table.entries.length < Config.maxEntries) &&
    (exempt || decide (s.startup.phase = .ready))

/-- A request that is not exempt from STARTING is taken. -/
def State.takes (s : State) (tag : Byte) : Bool := s.listening && s.admits tag false

/-- A request that is exempt from STARTING is taken. -/
def State.takesExempt (s : State) (tag : Byte) : Bool := s.listening && s.admits tag true

/-- The link after the last byte of a good request or acknowledgement frame (R146, R147). -/
def Link.tookFrame (l : Link) : Link :=
  { l with
    receiver := .hunt
    gap := .stopped
    counters := { l.counters with goodFrames := satInc l.counters.goodFrames } }

/-- The event of a request that is answered at once: in `u`, the state before it with the owner's effects made, the frame is
counted, the entry is made QUEUED, the reply is placed at the tail of the line, and the arbiter chooses (R167, R168, R154). -/
def State.answered (u : State) (tag code : Byte) (st : Status) (data : List Byte) : State :=
  State.arbitrate { u with
    link := u.link.tookFrame
    table :=
      { entries := u.table.entries ++ [⟨tag, code, .queued, false⟩]
        line := u.table.line ++ [.reply tag code st data] } }

/-- The event of a store request accepted as a job: the entry is AWAITING and nothing is placed (R169). -/
def State.awaited (u : State) (tag code : Byte) : State :=
  State.arbitrate { u with
    link := u.link.tookFrame
    table := { u.table with entries := u.table.entries ++ [⟨tag, code, .awaiting, false⟩] } }

/-- The event of a request frame that is refused by a refusal record (R166). -/
def State.recorded (u : State) (tag code : Byte) (st : Status) : State :=
  State.arbitrate { u with
    link := u.link.tookFrame
    table := { u.table with line := u.table.line ++ [.refusal tag code st] } }

/-- The job's reply placed for its entry: the entry is QUEUED, the reply stands at the tail (R169). -/
def Table.withDeferred (t : Table) (tag code : Byte) (st : Status) (data : List Byte) : Table :=
  { entries := modifyFirst (Pending.holds tag) (fun e => { e with state := .queued }) t.entries
    line := t.line ++ [.reply tag code st data] }

/-- The link after a good request frame whose refusal finds no free record (R166). -/
def Link.droppedRefusal (l : Link) : Link :=
  { l.tookFrame with
    counters := { l.tookFrame.counters with refusalsDropped := satInc l.counters.refusalsDropped } }

/-- The event of a request frame that fails a generic check: a record while fewer than 4 are in use, else a count (R166). -/
def State.refusedFrame (s : State) (tag code : Byte) (st : Status) : State :=
  if s.refusalsUsed < Config.maxRefusals then s.recorded tag code st
  else State.arbitrate { s with link := s.link.droppedRefusal }

/-- The requests exempt from the STARTING refusal, by code: the eleven GET_ requests and ABORT_PLAN (R165). -/
def exemptCodes : List Byte := [0x14, 0x15, 0x26, 0x33, 0x43, 0x44, 0x68, 0x69, 0x6A, 0x7C, 0x7D, 0x71]

/-- A body whose length is none the catalogue gives for its code (R162). -/
def malformedBody {α : Type} : Body α → Bool
  | .fields _ => false
  | .malformed _ => true

/-- A request command whose body is malformed (R162). -/
def malformedRequest : Instr → Bool
  | .createSegment _ b => malformedBody b
  | .writeSamples _ b => malformedBody b
  | .sealSegment _ b => malformedBody b
  | .deleteSegment _ b => malformedBody b
  | .getSegment _ b => malformedBody b
  | .getPool _ b => malformedBody b
  | .configureChannel _ b => malformedBody b
  | .enqueue _ b => malformedBody b
  | .start _ r => malformedBody r.body
  | .stopImmediate _ b => malformedBody b
  | .release _ b => malformedBody b
  | .flush _ b => malformedBody b
  | .getChannel _ b => malformedBody b
  | .setRate _ b => malformedBody b
  | .runRates _ b => malformedBody b
  | .haltRates _ b => malformedBody b
  | .getRates _ b => malformedBody b
  | .setInputs _ b => malformedBody b
  | .defineTrigger _ b => malformedBody b
  | .fire _ b => malformedBody b
  | .getTrigger _ b => malformedBody b
  | .getInputs _ b => malformedBody b
  | .save _ b => malformedBody b
  | .load _ b => malformedBody b
  | .erase _ b => malformedBody b
  | .setLock _ b => malformedBody b
  | .freeze _ b => malformedBody b
  | .savePlan _ b => malformedBody b
  | .clearPlan _ b => malformedBody b
  | .cancel _ b => malformedBody b
  | .getSlot _ b => malformedBody b
  | .getStore _ b => malformedBody b
  | .getPlan _ b => malformedBody b
  | .reset _ b => malformedBody b
  | .abortPlan _ b => malformedBody b
  | .setNotices _ b => malformedBody b
  | .getLink _ b => malformedBody b
  | .getPart _ b => malformedBody b
  | _ => false

/-- Every volatile field at the value its table gives for a reset (R3, R25, R58, R68, R103, R128, R144, R158, R160, R178). The
store, the straps, the cause, the supply, RESETn and the queue of commands are not among them. -/
def State.atReset (t : State) : Prop :=
  t.pool.map = [] ∧ t.pool.free = List.range 512 ∧
  (∀ c : Fin 4, t.channel c =
    { defaultGen := c, restCode := 32768, activeGen := c, state := .stopped, queue := [], output := 32768,
      m0 := ⟨false, none⟩, m1 := ⟨false, none⟩, counter := 0, emittedAt := [] }) ∧
  (∀ g : Fin 4, t.generator g = { divider := 24000, running := false, elapsed := 0, ticks := 0, tickedAt := 0 }) ∧
  t.deliveries = [] ∧
  (t.trig.divider = 240 ∧ t.trig.confirm = 2 ∧ t.trig.elapsed = 0 ∧ t.trig.sampled = false ∧ t.trig.raw = 0 ∧
    t.trig.confirmed = 0 ∧ ∀ n : Fin 8, t.trig.runs[n] = 0) ∧
  (∀ k : Fin 8, t.trigger k =
    { mode := .off, mask := 0, pattern := 0, edge := .any, prescale := 1, notify := false, count := 0, matched := false,
      fires := 0, captured := 0 }) ∧
  t.jobs = [] ∧
  (∃ cause, t.startup =
    { cause := cause, phase := .scanning, blank := 0, stored := 0, torn := 0, planState := .none, step := none,
      result := none, planStarted := 0, resetPending := false }) ∧
  (t.link.receiver = .hunt ∧ t.link.gap = .stopped ∧ t.link.breakHeld = false ∧ t.link.tx = .free ∧
    t.link.counters = ⟨0, 0, 0, 0, 0, 0, 0, 0, 0, 0, 0, 0⟩) ∧
  t.table = ⟨[], []⟩ ∧
  t.notices =
    { records := [], window := 4, enable := 0x1FF, nextSeq := 0, tally := 0, total := 0, timer := .stopped }

/-! ### Pool -/

/-- The free list and the block lists hold every block exactly once (R2). -/
abbrev Pool.partitioned (p : Pool) : Prop :=
  (p.free ++ p.map.flatMap (fun g => g.blocks)).Perm (List.range Config.poolBlocks)

/-- A segment record in its ranges: length, block count, fill mark, marks (table of spec 01, R1, R5). -/
def Segment.shaped (g : Segment) : Bool :=
  decide (1 ≤ g.length ∧ g.length ≤ Config.maxLength ∧ g.blocks.length = blocksFor g.length ∧ g.fill ≤ g.length ∧
    g.marks.length ≤ Config.maxMarks) && g.marks.all (fun m => decide (m.position < g.length))

/-- A STORED slot header in its ranges. -/
def Slot.shaped (x : Slot) : Bool :=
  x.content = .blank ||
    (decide (1 ≤ x.length ∧ x.length ≤ Config.maxLength ∧ x.marks.length ≤ Config.maxMarks) &&
      x.marks.all (fun m => decide (m.position < x.length)))

/-- Records and stored headers in their ranges. -/
def State.shaped (s : State) : Bool := s.pool.map.all Segment.shaped && s.store.slots.toList.all Slot.shaped

/-- No two records carry the same id (R4). -/
def Pool.keyed (p : Pool) : Bool := decide (p.map.Pairwise (fun g h => g.id ≠ h.id))

/-- Entries of the four queues that name a segment. -/
def State.entriesNaming (s : State) (id : Byte) : Nat :=
  (allChannels.map (fun c => (s.channel c).queue.countP (fun e => e.segment = id))).sum

/-- Jobs that name a segment. -/
def State.jobsNaming (s : State) (id : Byte) : Nat := s.jobs.countP (fun j => j.work.segment? = some id)

/-- R12: refs equal the entries and jobs that name a segment, each names a segment of the map, and a retiring or FAILED segment
has references. -/
def State.referenced (s : State) : Bool :=
  s.pool.keyed &&
    s.pool.map.all (fun g => decide (g.refs = s.entriesNaming g.id + s.jobsNaming g.id) &&
      (decide (0 < g.refs) || (!g.retiring && decide (g.state ≠ .failed)))) &&
    allChannels.all (fun c => (s.channel c).queue.all (fun e => (s.segment? e.segment).isSome)) &&
    s.jobs.all (fun j => match j.work.segment? with
      | some id => (s.segment? id).isSome
      | none => true)

/-! ### Channels -/

/-- An unstarted entry, which holds no tick back. -/
def Entry.waits (e : Entry) : Bool := !e.started && e.spent = 0

/-- What the table of channel states says of a channel in its state, and R27–R29. -/
def Channel.formed (ch : Channel) : Bool :=
  match ch.state, ch.queue with
  | .stopped, q => ch.output = ch.restCode && ch.m0 = .low && ch.m1 = .low && ch.activeGen = ch.defaultGen && q.all Entry.waits
  | .waiting, e :: rest => e.start ≠ .immediate && (e :: rest).all Entry.waits &&
      ch.activeGen = generatorFor ch.defaultGen (e :: rest)
  | .playing, e :: rest => e.started && rest.all Entry.waits && ch.activeGen = generatorFor ch.defaultGen (e :: rest)
  | .starved, e :: rest => e.started && rest.all Entry.waits && ch.activeGen = generatorFor ch.defaultGen (e :: rest)
  | .drained, [] => ch.activeGen = ch.defaultGen
  | _, _ => false

/-- All four channels are formed. -/
def State.channelsFormed (s : State) : Bool := allChannels.all (fun c => (s.channel c).formed)

/-! ### Capacities -/

/-- The capacities of the collections (spec 00, R4, R27, R103, R160, R166, R178). -/
def State.withinCapacity (s : State) : Bool :=
  decide (s.pool.map.length ≤ Config.mapRecords ∧ s.jobs.length ≤ Config.maxJobs ∧
    s.table.entries.length ≤ Config.maxEntries ∧ s.refusalsUsed ≤ Config.maxRefusals ∧
    s.notices.records.length ≤ Config.maxNotices) &&
    allChannels.all (fun c => decide ((s.channel c).queue.length ≤ Config.queueDepth))

/-! ### Store jobs (R103, R92) -/

/-- A SAVE or an ERASE of a slot. -/
def Work.writes : Work → Option (Fin 32)
  | .save n _ _ => some n
  | .erase n => some n
  | _ => none

/-- Two jobs name different slots and are not both plan jobs. -/
def Job.apart (j k : Job) : Bool :=
  (j.work.slot?.isNone || decide (j.work.slot? ≠ k.work.slot?)) && !(j.work.isPlan && k.work.isPlan)

/-- A SUSPENDED job is an ERASE suspended 8 times at most. -/
def Job.fit (j : Job) : Bool :=
  !j.isSuspended || match j.work with
    | .erase _ => decide (j.suspensions ≤ Config.maxSuspensions)
    | _ => false

/-- A SAVE or ERASE names a slot whose effective lock level is OPEN (R123). -/
def State.writesOpen (s : State) (j : Job) : Bool :=
  match j.work.writes with
  | some n => (s.slot n).effective = .unlocked
  | none => true

/-- The job list as R103 and R123 give it. -/
def State.jobsFit (s : State) : Bool :=
  decide (s.jobs.Pairwise (fun j k => j.apart k = true)) && decide (s.jobs.countP Job.isActive ≤ 1) &&
    decide (s.jobs.countP Job.isSuspended ≤ 1) && s.jobs.all Job.fit && s.jobs.all s.writesOpen

/-! ### Request Table -/

/-- No two non-orphaned entries carry the same tag (R160). -/
def State.tagsDistinct (s : State) : Bool :=
  decide (s.table.entries.Pairwise (fun e f => e.orphaned = true ∨ f.orphaned = true ∨ e.tag ≠ f.tag))

/-! ### Notice Queue (R178, R187, R191) -/

/-- The numbers of `k` records whose last one carries the number before `next`. -/
def seqsBefore (next : Byte) (k : Nat) : List Byte := (List.range k).map (fun i => next - BitVec.ofNat 8 (k - i))

/-- The records that carry a number. -/
def Notices.numbered (q : Notices) : List Notice := q.records.filter (fun r => !r.isNew)

/-- SENT records, then SENT-RESEND records, then NEW records; numbers consecutive in list order; at most 4 numbered; one NEW
record for a pair of kind and source; the timer runs exactly while a SENT record is there; the window is at most 4; STARTED and
LOST are enabled. -/
def Notices.arranged (q : Notices) : Bool :=
  q.records = q.records.filter Notice.isSent ++ q.records.filter Notice.isResend ++ q.records.filter Notice.isNew &&
    q.numbered.map Notice.seq? = (seqsBefore q.nextSeq q.numbered.length).map some &&
    decide (q.numbered.length ≤ Config.maxWindow) &&
    decide ((q.records.filter Notice.isNew).Pairwise (fun a b => a.kind ≠ b.kind ∨ a.source ≠ b.source)) &&
    decide ((q.timer = .stopped) ↔ (q.records.any Notice.isSent = false)) && decide (q.window ≤ Config.maxWindow) &&
    q.enable &&& alwaysEnabled = alwaysEnabled

/-! ### Transmitter -/

/-- The transmitter is busy, or nothing waits that it could send (R154). -/
def State.settled (s : State) : Bool :=
  match s.link.tx with
  | .free => s.table.line.isEmpty && s.notices.offer.isNone
  | _ => true

/-! ### All of it -/

/-- A sound state. -/
def State.sound (s : State) : Prop :=
  Memory.wf s.pool.mem = true ∧ s.pool.partitioned ∧ s.shaped = true ∧ s.referenced = true ∧ s.channelsFormed = true ∧
    s.withinCapacity = true ∧ s.jobsFit = true ∧ s.tagsDistinct = true ∧ s.notices.arranged = true ∧ s.settled = true

end Sys2Proof.Machine
end

