-- ==== Sys2Proof/WellFormed.lean ====
section
/-!
DEFINITION. Which commands can occur: a frame whose body the LENGTH field can carry (R143), fields the layout can carry
(R162, R175), and malformed bytes whose length is not one the catalogue gives. The checks read lengths and codes only, not
the readers of Decode.
-/

namespace Sys2Proof

/-- Bytes of the longest BODY field (R143). -/
def maxBody : Nat := 248

/-- A body that a frame can carry under this request code: fields that pass `ok`, or malformed bytes (R162). -/
def Body.wellFormed {α : Type} (code : Byte) (ok : α → Bool) : Body α → Bool
  | .fields f => ok f
  | .malformed bs => decide (bs.length + 1 ≤ maxBody) && !bodyFits code bs

/-- At most as many marks as a body can carry: 5 + 4n bytes. -/
def CreateFields.ok (f : CreateFields) : Bool := decide (5 + 4 * f.marks.length ≤ maxBody)

/-- 1–120 samples (R18). -/
def WriteFields.ok (f : WriteFields) : Bool := decide (1 ≤ f.samples.length ∧ f.samples.length ≤ Config.maxWrite)

/-- A label that a body can carry: 3 bytes or more. -/
def SaveFields.ok (f : SaveFields) : Bool := decide (3 + f.label.length ≤ maxBody)

/-- As many steps as counted, or fewer and then bytes that begin with a code outside the eight (R175). -/
def PlanFields.ok (f : PlanFields) : Bool :=
  decide (3 + (stepsBytes f.steps).length + f.rest.length ≤ maxBody) &&
    match f.rest with
    | [] => decide (f.steps.length = f.count.toNat)
    | c :: _ => decide (f.steps.length < f.count.toNat) && (stepSize c).isNone

/-- A command that can occur. -/
def Instr.wellFormed : Instr → Bool
  | .createSegment _ b => b.wellFormed 0x10 CreateFields.ok
  | .writeSamples _ b => b.wellFormed 0x11 WriteFields.ok
  | .sealSegment _ b => b.wellFormed 0x12 (fun _ => true)
  | .deleteSegment _ b => b.wellFormed 0x13 (fun _ => true)
  | .getSegment _ b => b.wellFormed 0x14 (fun _ => true)
  | .getPool _ b => b.wellFormed 0x15 (fun _ => true)
  | .configureChannel _ b => b.wellFormed 0x20 (fun _ => true)
  | .enqueue _ b => b.wellFormed 0x21 (fun _ => true)
  | .start _ r => r.body.wellFormed 0x22 (fun _ => true)
  | .stopImmediate _ b => b.wellFormed 0x23 (fun f => decide (f.mode ≠ 1))
  | .stopAtPassEnd _ _ => true
  | .release _ b => b.wellFormed 0x24 (fun _ => true)
  | .flush _ b => b.wellFormed 0x25 (fun _ => true)
  | .getChannel _ b => b.wellFormed 0x26 (fun _ => true)
  | .setRate _ b => b.wellFormed 0x30 (fun _ => true)
  | .runRates _ b => b.wellFormed 0x31 (fun _ => true)
  | .haltRates _ b => b.wellFormed 0x32 (fun _ => true)
  | .getRates _ b => b.wellFormed 0x33 (fun _ => true)
  | .setInputs _ b => b.wellFormed 0x40 (fun _ => true)
  | .defineTrigger _ b => b.wellFormed 0x41 (fun _ => true)
  | .fire _ b => b.wellFormed 0x42 (fun _ => true)
  | .getTrigger _ b => b.wellFormed 0x43 (fun _ => true)
  | .getInputs _ b => b.wellFormed 0x44 (fun _ => true)
  | .save _ b => b.wellFormed 0x60 SaveFields.ok
  | .load _ b => b.wellFormed 0x61 (fun _ => true)
  | .erase _ b => b.wellFormed 0x62 (fun _ => true)
  | .setLock _ b => b.wellFormed 0x63 (fun _ => true)
  | .freeze _ b => b.wellFormed 0x64 (fun _ => true)
  | .savePlan _ b => b.wellFormed 0x65 PlanFields.ok
  | .clearPlan _ b => b.wellFormed 0x66 (fun _ => true)
  | .cancel _ b => b.wellFormed 0x67 (fun _ => true)
  | .getSlot _ b => b.wellFormed 0x68 (fun _ => true)
  | .getStore _ b => b.wellFormed 0x69 (fun _ => true)
  | .getPlan _ b => b.wellFormed 0x6A (fun _ => true)
  | .reset _ b => b.wellFormed 0x70 (fun _ => true)
  | .abortPlan _ b => b.wellFormed 0x71 (fun _ => true)
  | .setNotices _ b => b.wellFormed 0x78 (fun _ => true)
  | .getLink _ b => b.wellFormed 0x7C (fun _ => true)
  | .getPart _ b => b.wellFormed 0x7D (fun _ => true)
  | .unknownRequest _ body =>
    decide (body.length ≤ maxBody) && (match body with | [] => true | c :: _ => !catalogue.contains c)
  | .noticeAcknowledgement _ body => decide (body.length ≤ maxBody)
  | .lengthError b => !goodLength b
  | .checkError c k => decide (2 ≤ c.length ∧ c.length ≤ 250 ∧ k ≠ frameCheck c)
  | .kindError k _ body => decide (body.length ≤ maxBody) && decide (k ≠ kindRequest ∧ k ≠ kindAck)
  | .gapError => true
  | .stopBitError => true
  | .huntByte b => decide (b ≠ syncValue)
  | .lineBreak => true
  | .replyFrameEnd => true
  | .noticeFrameEnd => true
  | .retransmitTimerExpiry => true
  | .tick _ => true
  | .tickDelivery _ _ => true
  | .sample _ _ => true
  | .blockTransfer _ => true
  | .saveCompletion => true
  | .loadCompletion _ => true
  | .eraseCompletion => true
  | .setLockCompletion => true
  | .savePlanCompletion => true
  | .clearPlanCompletion => true
  | .scanCompletion => true
  | .powerOn _ => true
  | .powerLoss => true
  | .resetnAsserted => true
  | .pinReset _ => true
  | .syncByte => true
  | .frameByte _ => true
  | .rxdReturnsToMark => true

end Sys2Proof
end

