-- ==== Sys2Proof/Certificates/Slice0/Obligations.lean ====
section
/-!
DEFINITION. The statements for the provers. `s.takes tag`: the part works, the receiver hunts, and a well-formed request under
`tag` passes the generic checks; `u.answered …`, `u.awaited …`, `s.recorded …`: what the link and the Request Table do in the
event of a request that is answered at once, becomes a job, is refused by a record (Safety.lean). In each of them `u` is
the state before the request with the owner's effects made, so a field that `u` does not name is unchanged, and the
arbiter's choice ends the event: it touches `table`, `link.tx` and `notices` alone (statement ArbiterChoosesTheFrame). Where R173
leaves the layout of reply data open, the data stand in the layout of the model (notes/assumptions/17.md).
-/

section Statements

open Sys2Proof Sys2Proof.Machine

/-! ### The machine -/

/-- A step runs the command at the front of the queue on the state with the queue's rest. The queue is the model's own field, which
stands for the order in which the events come (notes/assumptions/30.md). -/
def Obligations.StepTakesFrontCommand : Prop :=
  ∀ (c : Instr) (rest : List Instr) (s : State), s.pending = c :: rest → step s = exec c { s with pending := rest }

/-- On an empty queue one period of REFCLK passes (the model's choice, notes/assumptions/7.md; the counts are those of R59, R69,
R109, R148, R187): the counts of RUNNING generators, of the sampler, of the running timers rise and the remaining work of the
ACTIVE job falls, each at most to the value before its event, and nothing else changes. A part that does not work stands
still. -/
def Obligations.IdleStepIsOnePeriod : Prop :=
  ∀ s : State, s.pending = [] →
    (s.alive = false → step s = .next s) ∧
    (s.alive = true → ∃ t, step s = .next t ∧
      t = { s with generators := t.generators, trig := { s.trig with elapsed := t.trig.elapsed }, jobs := t.jobs,
                   link := { s.link with gap := t.link.gap }, notices := { s.notices with timer := t.notices.timer } } ∧
      (∀ g, t.generator g = { s.generator g with
        elapsed := if (s.generator g).running = true ∧ (s.generator g).elapsed + 1 < (s.generator g).divider
          then (s.generator g).elapsed + 1 else (s.generator g).elapsed }) ∧
      t.trig.elapsed = (if s.trig.elapsed + 1 < s.trig.divider then s.trig.elapsed + 1 else s.trig.elapsed) ∧
      t.jobs = s.jobs.map (fun j => { j with
        remaining := if j.state = .active ∧ 1 < j.remaining then j.remaining - 1 else j.remaining }) ∧
      (s.link.gap = .stopped → t.link.gap = .stopped) ∧
      (∀ e, s.link.gap = .running e → t.link.gap = .running (if e + 1 < Config.gapTime then e + 1 else e)) ∧
      (s.notices.timer = .stopped → t.notices.timer = .stopped) ∧
      (∀ e, s.notices.timer = .running e → t.notices.timer = .running (if e + 1 < Config.retransmitTime then e + 1 else e)))

/-- No command touches the queue of commands. The queue is the model's own field, and that every command keeps it is the model's
choice (notes/assumptions/30.md). -/
def Obligations.CommandsKeepTheQueue : Prop :=
  ∀ (c : Instr) (s t : State), exec c s = .next t → t.pending = s.pending

/-! ### Power and resets (spec 07) -/

/-- POWER_ON, and RESETn's return to high on a powered part: every volatile field at its reset value, the cause, the straps sampled;
POWER_ON clears the freeze flags, PIN keeps them, and the rest of the store is kept (R127, R128). The model's choices: POWER_ON of a
part that has power or whose RESETn is low, and PIN_RESET with RESETn already high (notes/assumptions/20.md); on a part without power
the pin alone changes (notes/assumptions/21.md). -/
def Obligations.PowerAndPinReset : Prop :=
  ∀ (straps : BitVec 2) (s : State),
    (∃ t, exec (.powerOn straps) s = .next t ∧ t.atReset ∧ t.startup.cause = .powerOn ∧
      t.link.straps = straps ∧ t.powered = true ∧ t.resetnLow = s.resetnLow ∧ t.store.plan = s.store.plan ∧
      (∀ n, t.slot n = { s.slot n with freeze := false }) ∧ t.pending = s.pending) ∧
    (s.powered = true → ∃ t, exec (.pinReset straps) s = .next t ∧ t.atReset ∧ t.startup.cause = .pin ∧
      t.link.straps = straps ∧ t.powered = true ∧ t.resetnLow = false ∧ t.store = s.store ∧ t.pending = s.pending) ∧
    (s.powered = false → exec (.pinReset straps) s = .next { s with resetnLow := false })

/-- RESETN_ASSERTED and POWER_LOSS hold every block at its reset values and leave the store, with its announcements, as it
stands (R127, R99). While RESETn is low, or without power, the part takes no frame, byte, tick, sample or completion: every
command but the four of power and reset leaves the state as it is. That a part without power stands at its reset values, with the
cause of the last reset, is the model's choice (notes/assumptions/32.md), and so is RESETN_ASSERTED on it
(notes/assumptions/21.md). -/
def Obligations.HeldPartStandsAtReset : Prop :=
  ∀ s : State,
    (∃ t, exec .resetnAsserted s = .next t ∧ t.atReset ∧ t.startup.cause = s.startup.cause ∧ t.resetnLow = true ∧ t.powered = s.powered ∧ t.store = s.store ∧
      t.link.straps = s.link.straps ∧ t.pending = s.pending) ∧
    (∃ t, exec .powerLoss s = .next t ∧ t.atReset ∧ t.startup.cause = s.startup.cause ∧ t.powered = false ∧ t.resetnLow = s.resetnLow ∧ t.store = s.store ∧
      t.link.straps = s.link.straps ∧ t.pending = s.pending) ∧
    (s.alive = false → ∀ c : Instr, (∀ v, c ≠ .powerOn v) → c ≠ .powerLoss → c ≠ .resetnAsserted → (∀ v, c ≠ .pinReset v) →
      exec c s = .next s)

/-- The end of the RESET reply's transmission is the SOFT reset: every volatile field at its reset value, the cause SOFT, the
straps and the whole store, freeze flags too, kept (R140, R128). -/
def Obligations.SoftResetAtReplyEnd : Prop :=
  ∀ (s : State) (tag : Byte) (data bytes : List Byte), s.alive = true → s.startup.resetPending = true →
    s.link.tx = .reply (.reply tag 0x70 .ok data) bytes →
    ∃ t, exec .replyFrameEnd s = .next t ∧ t.atReset ∧ t.startup.cause = .soft ∧ t.link.straps = s.link.straps ∧
      t.powered = s.powered ∧ t.resetnLow = s.resetnLow ∧ t.store = s.store ∧ t.pending = s.pending

/-! ### Frames and the receiver (spec 08) -/

/-- Writing and reading agree: a well-formed command that is a good frame is what its content is read as (R143, R162, R173–R175). -/
def Obligations.FramesReadBack : Prop :=
  ∀ (i : Instr) (c : List Byte), i.wellFormed = true → i.content? = some c → decodeFrame c = some i

/-- A frame command is its bytes: on a settled part whose receiver hunts, the event of a well-formed frame command leaves what
taking the frame's bytes one after another leaves (R143–R147). -/
def Obligations.FrameCommandIsItsBytes : Prop :=
  (∀ (i : Instr) (c : List Byte) (s : State), i.wellFormed = true → i.content? = some c → s.listening = true →
    s.settled = true → exec i s = .next (State.takeBytes (frame c) s)) ∧
  (∀ (c : List Byte) (k : Half) (s : State), (Instr.checkError c k).wellFormed = true → s.listening = true →
    s.settled = true → exec (.checkError c k) s = .next (State.takeBytes (frameWith c k) s))

/-- The receiver's table, one byte at a time: SYNC_BYTE and HUNT_BYTE in HUNT, FRAME_BYTE inside a frame (R144–R148). At the second
check byte, with the matching check, the frame is dispatched as its kind says and the receiver returns to HUNT; with another
check it is a check error. -/
def Obligations.ReceiverTakesBytes : Prop :=
  ∀ s : State, s.alive = true → s.link.breakHeld = false →
    (s.link.receiver = .hunt →
      exec .syncByte s = .next (State.arbitrate { s with
        link := { s.link with receiver := .length, gap := .running 0 } }) ∧
      (∀ b, b ≠ 0xB7 → exec (.huntByte b) s = .next (State.arbitrate { s with link := { s.link with
        counters := { s.link.counters with huntBytes := satInc s.link.counters.huntBytes } } }))) ∧
    (∀ b : Byte, s.link.receiver = .length → 2 ≤ b.toNat → b.toNat ≤ 250 →
      exec (.frameByte b) s = .next (State.arbitrate { s with
        link := { s.link with receiver := .body b.toNat [], gap := .running 0 } })) ∧
    (∀ (b : Byte) (n : Nat) (got : List Byte), s.link.receiver = .body n got →
      exec (.frameByte b) s = .next (State.arbitrate { s with link := { s.link with
        receiver := if got.length + 1 < n then .body n (got ++ [b]) else .check n (got ++ [b]) none
        gap := .running 0 } })) ∧
    (∀ (b : Byte) (n : Nat) (got : List Byte), s.link.receiver = .check n got none →
      exec (.frameByte b) s = .next (State.arbitrate { s with link := { s.link with
        receiver := .check n got (some b), gap := .running 0 } })) ∧
    (∀ (lo hi : Byte) (n : Nat) (got : List Byte), s.link.receiver = .check n got (some lo) →
      let u : State := { s with link := { s.link with receiver := .hunt, gap := .stopped } }
      (∀ i, half lo hi = frameCheck got → i.content? = some got → i.wellFormed = true →
        exec (.frameByte hi) s = exec i u) ∧
      (half lo hi ≠ frameCheck got → exec (.frameByte hi) s = exec (.checkError got (half lo hi)) u))

/-- The four link faults, in the state the receiver reaches them: the fault's counter rises, the receiver returns to HUNT with its
gap timer stopped, and LINK_FAULT is produced with the fault and the counter after the increment; a kind error and a check
error are those of a frame that arrives whole (R145–R148, R150). LENGTH_ERROR outside the LENGTH state brings its SYNC with it
(notes/assumptions/4.md). A stop-bit error is counted and leaves the receiver's state, its partial frame and its gap timer (R149). -/
def Obligations.LinkFaults : Prop :=
  ∀ s : State, s.alive = true → s.link.breakHeld = false →
    (∀ v, s.link.receiver ≠ .length → exec (.lengthError v) s = .next (State.takeBytes [0xB7, v] s)) ∧
    (∀ (v k : Byte) (body content : List Byte) (check : Half), s.link.receiver = .hunt →
      (v.toNat < 2 ∨ 250 < v.toNat →
        exec (.lengthError v) { s with link := { s.link with receiver := .length } } =
          .next (State.arbitrate { s with
            link := { s.link with
              gap := .stopped
              counters := { s.link.counters with lengthErrors := satInc s.link.counters.lengthErrors } }
            notices := s.notices.produce .linkFault .link (0 :: halfBytes (satInc s.link.counters.lengthErrors)) })) ∧
      (check ≠ frameCheck content →
        exec (.checkError content check) s = .next (State.arbitrate { s with
          link := { s.link with
            gap := .stopped
            counters := { s.link.counters with checkErrors := satInc s.link.counters.checkErrors } }
          notices := s.notices.produce .linkFault .link (1 :: halfBytes (satInc s.link.counters.checkErrors)) })) ∧
      exec (.kindError k v body) s = .next (State.arbitrate { s with
          link := { s.link with
            gap := .stopped
            counters := { s.link.counters with kindErrors := satInc s.link.counters.kindErrors } }
          notices := s.notices.produce .linkFault .link (3 :: halfBytes (satInc s.link.counters.kindErrors)) })) ∧
    (s.link.receiver ≠ .hunt →
      exec .gapError s = .next (State.arbitrate { s with
        link := { s.link with
          receiver := .hunt
          gap := .stopped
          counters := { s.link.counters with gapErrors := satInc s.link.counters.gapErrors } }
        notices := s.notices.produce .linkFault .link (2 :: halfBytes (satInc s.link.counters.gapErrors)) })) ∧
    exec .stopBitError s = .next (State.arbitrate { s with link := { s.link with
      counters := { s.link.counters with stopBitErrors := satInc s.link.counters.stopBitErrors } } })

/-- A break (R151, R152): the counter, the receiver in HUNT, the reply line emptied with the entries of its replies, the AWAITING
entries and their jobs orphaned, the numbered notices marked, LINK_FAULT; the SOFT reset when it discards a pending RESET's
reply, whatever other frame is in transmission, and not when a RESET's reply is (notes/assumptions/19.md). A second
break during the same space does nothing; RXD's return to mark re-arms the detector. That the arbiter chooses in the break's own
event, and so may begin a resending there, is the model's choice beside R190 (notes/assumptions/40.md). -/
def Obligations.BreakResetsTheLink : Prop :=
  ∀ s : State, s.alive = true →
    (s.link.breakHeld = true → exec .lineBreak s = .next s.arbitrate) ∧
    exec .rxdReturnsToMark s = .next (State.arbitrate { s with link := { s.link with breakHeld := false } }) ∧
    (s.link.breakHeld = false →
      let n := satInc s.link.counters.breaks
      let u : State := { s with
        link := { s.link with
          receiver := .hunt, gap := .stopped, breakHeld := true
          counters := { s.link.counters with breaks := n } }
        table :=
          { entries := (s.table.entries.filter (fun e => e.state ≠ .queued)).map
              (fun e => if e.state = .sending then e else { e with orphaned := true })
            line := [] }
        jobs := s.jobs.map (fun j => { j with origin := match j.origin with
          | .request tag _ => .request tag true
          | .plan => .plan })
        notices := ({ s.notices with
          timer := .stopped
          records := s.notices.records.map (fun r => { r with state := match r.state with
            | .new => .new
            | .sent k => .resend k
            | .resend k => .resend k }) } : Notices).produce .linkFault .link (4 :: halfBytes n) }
      (s.startup.resetPending = false ∨ (∀ tag data, .reply tag 0x70 .ok data ∉ s.table.line) ∨
        (∃ tag data bytes, s.link.tx = .reply (.reply tag 0x70 .ok data) bytes) → exec .lineBreak s = .next u.arbitrate) ∧
      (∀ tag data, s.startup.resetPending = true → .reply tag 0x70 .ok data ∈ s.table.line →
        (∀ other more bytes, s.link.tx ≠ .reply (.reply other 0x70 .ok more) bytes) →
        ∃ t, exec .lineBreak s = .next t ∧ t.atReset ∧ t.startup.cause = .soft ∧ t.link.straps = s.link.straps ∧
          t.powered = s.powered ∧ t.resetnLow = s.resetnLow ∧ t.store = s.store ∧ t.pending = s.pending))


/-! ### The Request Table and the transmitter (spec 08, spec 09) -/

/-- The generic checks in their order (R161–R166): a request frame with a malformed body, a tag in use, a full table or a part that is
STARTING is refused by a record, or dropped and counted where four records are in use, and nothing else changes; a body that is
empty is BAD_FORMAT under code 00h, one with a code outside the catalogue UNKNOWN_REQUEST. -/
def Obligations.GenericChecksRefuse : Prop :=
  ∀ (i : Instr) (s : State), s.listening = true →
    (∀ code, i.code? = some code →
      (malformedRequest i = true → exec i s = .next (s.refusedFrame i.tag code .badFormat)) ∧
      (malformedRequest i = false →
        ((∃ e ∈ s.table.entries, e.tag = i.tag ∧ e.orphaned = false) →
          exec i s = .next (s.refusedFrame i.tag code .tagInUse)) ∧
        ((∀ e ∈ s.table.entries, e.tag = i.tag → e.orphaned = true) →
          (8 ≤ s.table.entries.length → exec i s = .next (s.refusedFrame i.tag code .tableFull)) ∧
          (s.table.entries.length < 8 → s.startup.phase ≠ .ready → code ∉ exemptCodes →
            exec i s = .next (s.refusedFrame i.tag code .starting))))) ∧
    (∀ tag, i = .unknownRequest tag [] → exec i s = .next (s.refusedFrame tag 0 .badFormat)) ∧
    (∀ tag code rest, i = .unknownRequest tag (code :: rest) →
      exec i s = .next (s.refusedFrame tag code .unknownRequest))

/-- What the queue offers (R183) and what the arbiter does (R154–R156, R170, R184): a busy transmitter is left alone; a free one
takes the oldest item of the reply line, whose entry becomes SENDING; else the offered record, a SENT-RESEND one with its
number and the timer restarted, a NEW one with the next number; else nothing changes. A frame is fixed at its start, and its bytes are SYNC, LENGTH, the content and
the check, low byte first, over LENGTH and content, each byte from its most significant bit (R143); the content of a reply or a
refusal is 52h, the tag, the request code, the status code and the data (R170, R173), that of a notice 53h, its number, kind,
count, source class and number, and detail (R156, R182). -/
def Obligations.ArbiterChoosesTheFrame : Prop :=
  let sent := fun (content : List Byte) =>
    let covered := (BitVec.ofNat 8 content.length : Byte) :: content
    let check := (covered.flatMap (fun b => [7, 6, 5, 4, 3, 2, 1, 0].map (fun i => b.getLsbD i))).foldl
      (fun (r : Half) (bit : Bool) => (r <<< 1) ^^^ (if r.msb != bit then 0x1021 else 0)) 0xFFFF
    (0xB7 : Byte) :: (covered ++ [check.setWidth 8, (check >>> 8).setWidth 8])
  let status := fun (st : Status) => (BitVec.ofNat 8 ([Status.ok, .badFormat, .unknownRequest, .tagInUse, .tableFull, .starting,
    .range, .channelRunning, .alreadyRunning, .queueFull, .nothingToRelease, .noSuchSegment, .idInUse, .mapFull, .poolFull,
    .segmentState, .segmentBusy, .outOfOrder, .retiring, .triggerOff, .jobsFull, .slotBusy, .slotNotBlank, .slotEmpty,
    .slotLocked, .slotFrozen, .slotWorn, .checkFailed, .cancelled, .noSuchJob, .notCancellable, .planInvalid,
    .notStarting].idxOf st) : Byte)
  let reply := fun (item : LineItem) => match item with
    | .reply tag code st data => 0x52 :: tag :: code :: status st :: data
    | .refusal tag code st => [0x52, tag, code, status st]
  let notice := fun (n : Byte) (r : Notice) =>
    0x53 :: n :: BitVec.ofNat 8 ([NoticeKind.entryDone, .drained, .starved, .entrySkipped, .triggerFired, .segmentFreed,
      .linkFault, .started, .lost].idxOf r.kind + 1) :: r.count.setWidth 8 :: (r.count >>> 8).setWidth 8 ::
      ((match r.source with
        | .part => [0, 0]
        | .link => [1, 0]
        | .channel c => [2, BitVec.ofNat 8 c.val]
        | .trigger k => [3, BitVec.ofNat 8 k.val]
        | .segment id => [4, id]) ++ r.detail)
  (∀ q : Notices,
    (q.window = 0 → q.offer = none) ∧
    (∀ (xs ys : List Notice) (r : Notice) (n : Byte), q.window ≠ 0 → q.records = xs ++ r :: ys → r.state = .resend n →
      (∀ x ∈ xs, ∀ k, x.state ≠ .resend k) → q.offer = some r) ∧
    ((∀ x ∈ q.records, ∀ k, x.state ≠ .resend k) →
      (q.window ≤ q.records.countP Notice.isSent → q.offer = none) ∧
      ((∀ x ∈ q.records, x.state ≠ .new) → q.offer = none) ∧
      (∀ (xs ys : List Notice) (r : Notice), q.records.countP Notice.isSent < q.window → q.records = xs ++ r :: ys →
        r.state = .new → (∀ x ∈ xs, x.state ≠ .new) → q.offer = some r))) ∧
  (∀ s : State,
    (s.link.tx ≠ .free → s.arbitrate = s) ∧
    (s.link.tx = .free → s.table.line = [] → s.notices.offer = none → s.arbitrate = s) ∧
    (∀ item rest, s.link.tx = .free → s.table.line = item :: rest → ∃ t : Table,
      s.arbitrate = { s with link := { s.link with tx := .reply item (sent (reply item)) }, table := t } ∧ t.line = rest ∧
      (∀ tag code st, item = .refusal tag code st → t.entries = s.table.entries) ∧
      (∀ tag code st data, item = .reply tag code st data →
        (∀ xs e ys, s.table.entries = xs ++ e :: ys → e.tag = tag → e.orphaned = false →
          (∀ x ∈ xs, x.tag = tag → x.orphaned = true) → t.entries = xs ++ { e with state := .sending } :: ys))) ∧
    (∀ (xs ys : List Notice) (r : Notice), s.link.tx = .free → s.table.line = [] → s.notices.offer = some r →
      s.notices.records = xs ++ r :: ys →
      (r.state = .new → (∀ x ∈ xs, x.state ≠ .new) → s.arbitrate =
        { s with
          link := { s.link with tx := .notice s.notices.nextSeq (sent (notice s.notices.nextSeq r)) }
          notices := { s.notices with
            records := xs ++ { r with state := .sent s.notices.nextSeq } :: ys
            nextSeq := s.notices.nextSeq + 1
            timer := if s.notices.timer = .stopped then .running 0 else s.notices.timer } }) ∧
      (∀ n, r.state = .resend n → (∀ x ∈ xs, ∀ k, x.state ≠ .resend k) → s.arbitrate =
        { s with
          link := { s.link with tx := .notice n (sent (notice n r)) }
          notices := { s.notices with records := xs ++ { r with state := .sent n } :: ys, timer := .running 0 } })))

/-- The end of a transmission (R155, R170, R185): a reply's entry leaves the table, a refusal record frees its place, a notice's record
stays as it is; the frame is counted and the transmitter is free for the arbiter. The end of the RESET reply is stated apart
(SoftResetAtReplyEnd). An end that no transmission precedes changes nothing but the arbiter's choice (notes/assumptions/6.md). -/
def Obligations.TransmissionEnds : Prop :=
  ∀ (s : State) (bytes : List Byte), s.alive = true →
    ((∀ item more, s.link.tx ≠ .reply item more) → exec .replyFrameEnd s = .next s.arbitrate) ∧
    ((∀ n more, s.link.tx ≠ .notice n more) → exec .noticeFrameEnd s = .next s.arbitrate) ∧
    (∀ tag code st data xs e ys, s.link.tx = .reply (.reply tag code st data) bytes →
      (s.startup.resetPending = false ∨ code ≠ 0x70 ∨ st ≠ .ok) →
      s.table.entries = xs ++ e :: ys → e.tag = tag → e.code = code → e.state = .sending →
      (∀ x ∈ xs, ¬(x.tag = tag ∧ x.code = code ∧ x.state = .sending)) →
      exec .replyFrameEnd s = .next (State.arbitrate { s with
        link := { s.link with
          tx := .free
          counters := { s.link.counters with replyFrames := satInc s.link.counters.replyFrames } }
        table := { s.table with entries := xs ++ ys } })) ∧
    (∀ tag code st, s.link.tx = .reply (.refusal tag code st) bytes →
      exec .replyFrameEnd s = .next (State.arbitrate { s with link := { s.link with
        tx := .free
        counters := { s.link.counters with replyFrames := satInc s.link.counters.replyFrames } } })) ∧
    (∀ n, s.link.tx = .notice n bytes →
      exec .noticeFrameEnd s = .next (State.arbitrate { s with link := { s.link with
        tx := .free
        counters := { s.link.counters with noticeFrames := satInc s.link.counters.noticeFrames } } }))

/-! ### The Notice Queue (spec 10) -/

/-- Producing a notice (R179): dropped when its kind is disabled; merged into the NEW record of its kind and source, which counts one
more and takes the detail; appended as a NEW record while there are fewer than 32; else lost and counted in the tally and the
total. -/
def Obligations.NoticeProduced : Prop :=
  ∀ (k : NoticeKind) (src : Source) (d : List Byte) (q : Notices),
    (q.enable.getLsbD (k.num - 1) = false → q.produce k src d = q) ∧
    (q.enable.getLsbD (k.num - 1) = true →
      (∀ xs r ys, q.records = xs ++ r :: ys → r.state = .new → r.kind = k → r.source = src →
        (∀ x ∈ xs, ¬(x.state = .new ∧ x.kind = k ∧ x.source = src)) →
        q.produce k src d = { q with records :=
          xs ++ { r with count := if r.count = 65535 then 65535 else r.count + 1, detail := d } :: ys }) ∧
      ((∀ x ∈ q.records, ¬(x.state = .new ∧ x.kind = k ∧ x.source = src)) →
        (q.records.length < 32 → q.produce k src d =
          { q with records := q.records ++ [{ kind := k, source := src, detail := d, count := 1, state := .new }] }) ∧
        (32 ≤ q.records.length → q.produce k src d =
          { q with
            tally := if q.tally = 65535 then 65535 else q.tally + 1
            total := if q.total = 65535 then 65535 else q.total + 1 })))

/-- NOTICE_ACKNOWLEDGEMENT and RETRANSMIT_TIMER_EXPIRY (R181, R186–R188): an acknowledgement of a SENT record removes the records
through it, restarts the timer while SENT records remain and else stops it, and produces LOST when the tally is above 0; an
acknowledgement of no SENT record is counted; an expiry marks every SENT record for resending and stops the timer. That the arbiter chooses in the expiry's own
event, and so may begin a resending there, is the model's choice beside R190 (notes/assumptions/40.md). -/
def Obligations.AcknowledgementAndExpiry : Prop :=
  ∀ s : State,
    (∀ (n : Byte) (body : List Byte), s.listening = true →
      ((∀ r ∈ s.notices.records, r.state ≠ .sent n) →
        exec (.noticeAcknowledgement n body) s = .next (State.arbitrate { s with link := { s.link.tookFrame with
          counters := { s.link.tookFrame.counters with unknownAcks := satInc s.link.counters.unknownAcks } } })) ∧
      (∀ xs r ys, s.notices.records = xs ++ r :: ys → r.state = .sent n → (∀ x ∈ xs, x.state ≠ .sent n) →
        let q : Notices := { s.notices with
          records := ys
          timer := if ys.any Notice.isSent then .running 0 else .stopped }
        (s.notices.tally = 0 → exec (.noticeAcknowledgement n body) s =
          .next (State.arbitrate { s with link := s.link.tookFrame, notices := q })) ∧
        (s.notices.tally ≠ 0 → exec (.noticeAcknowledgement n body) s =
          .next (State.arbitrate { s with
            link := s.link.tookFrame
            notices :=
              { q.produce .lost .part (halfBytes s.notices.tally ++ halfBytes s.notices.total) with tally := 0 } })))) ∧
    (∀ e, s.alive = true → s.notices.timer = .running e →
      exec .retransmitTimerExpiry s = .next (State.arbitrate { s with notices := { s.notices with
        timer := .stopped
        records := s.notices.records.map (fun r => { r with state := match r.state with
          | .new => .new
          | .sent k => .resend k
          | .resend k => .resend k }) } }))

/-! ### The Segment Pool (spec 01) -/

/-- The check of a mark list (R5): it fails exactly when it holds more than 16 marks or a mark with a position of the length or more,
a line above 1, an action above 4, a fire value of 8–FEh, or action NONE with fire absent; a list that passes is stored
sorted by position, and the marks of one position keep the order given. -/
def Obligations.MarkListIsChecked : Prop :=
  ∀ (length : Nat) (ms : List RawMark),
    (markList length ms = none ↔ 16 < ms.length ∨ ∃ m ∈ ms, length ≤ m.position.toNat ∨ 1 < m.lineAction.toNat / 16 ∨
      4 < m.lineAction.toNat % 16 ∨ (8 ≤ m.fire.toNat ∧ m.fire.toNat ≤ 254) ∨
      (m.lineAction.toNat % 16 = 0 ∧ m.fire.toNat = 255)) ∧
    (∀ out, markList length ms = some out →
      out.Pairwise (fun a b => a.position ≤ b.position) ∧
      ∀ p, (out.filter (fun m => m.position = p)).map Mark.bytes =
        (ms.filter (fun m => m.position.toNat = p)).map RawMark.bytes)

/-- CREATE_SEGMENT (R17): RANGE, ID_IN_USE, MAP_FULL, POOL_FULL in this order, each leaving the pool; else a FILLING record with the
⌈length/64⌉ blocks from the head of the free list, the sorted marks, fill mark 0, refs 0, not retiring, origin HOST. The reply is
OK with the number of blocks and the free-list length after it. -/
def Obligations.CreateSegment : Prop :=
  ∀ (tag : Byte) (f : CreateFields) (s : State), s.takes tag = true →
    let run := exec (.createSegment tag (.fields f)) s
    let refused := fun st => Host.Outcome.next (s.answered tag 0x10 st [])
    let n := (f.length.toNat + 63) / 64
    let inRange := f.id ≠ 0 ∧ f.id ≠ 255 ∧ 1 ≤ f.length.toNat ∧ f.length.toNat ≤ 8192
    (¬inRange ∨ markList f.length.toNat f.marks = none → run = refused .range) ∧
    (∀ marks, inRange → markList f.length.toNat f.marks = some marks →
      ((s.segment? f.id).isSome = true → run = refused .idInUse) ∧
      (s.segment? f.id = none → 96 ≤ s.pool.map.length → run = refused .mapFull) ∧
      (s.segment? f.id = none → s.pool.map.length < 96 → s.pool.free.length < n → run = refused .poolFull) ∧
      (s.segment? f.id = none → s.pool.map.length < 96 → n ≤ s.pool.free.length → ∃ u : State,
        run = .next (u.answered tag 0x10 .ok (u8 n ++ u16 (s.pool.free.length - n))) ∧
        u = { s with pool := { s.pool with free := s.pool.free.drop n, map := u.pool.map } } ∧
        u.segment? f.id = some
          { id := f.id, state := .filling, length := f.length.toNat, fill := 0, blocks := s.pool.free.take n, marks := marks,
            refs := 0, retiring := false, origin := .host } ∧
        u.pool.map.length = s.pool.map.length + 1 ∧ ∀ id, id ≠ f.id → u.segment? id = s.segment? id))

/-- WRITE_SAMPLES (R18): RANGE, NO_SUCH_SEGMENT, SEGMENT_STATE, OUT_OF_ORDER, RANGE in this order, nothing written; else the samples
stand at positions offset onward of the segment's blocks (`writeRun`) and the fill mark rises by their count. -/
def Obligations.WriteSamples : Prop :=
  ∀ (tag : Byte) (f : WriteFields) (s : State), s.takes tag = true →
    let run := exec (.writeSamples tag (.fields f)) s
    let refused := fun st => Host.Outcome.next (s.answered tag 0x11 st [])
    (f.id = 0 ∨ f.id = 255 → run = refused .range) ∧
    (f.id ≠ 0 → f.id ≠ 255 →
      (s.segment? f.id = none → run = refused .noSuchSegment) ∧
      (∀ g, s.segment? f.id = some g →
        (g.state ≠ .filling → run = refused .segmentState) ∧
        (g.state = .filling → f.offset.toNat ≠ g.fill → run = refused .outOfOrder) ∧
        (g.state = .filling → f.offset.toNat = g.fill → g.length < g.fill + f.samples.length → run = refused .range) ∧
        (g.state = .filling → f.offset.toNat = g.fill → g.fill + f.samples.length ≤ g.length → ∃ u : State,
          run = .next (u.answered tag 0x11 .ok (u16 (g.fill + f.samples.length))) ∧
          u = { s with pool := { s.pool with
            mem := writeRun g.blocks g.fill f.samples s.pool.mem, map := u.pool.map } } ∧
          u.segment? f.id = some { g with fill := g.fill + f.samples.length } ∧
          u.pool.map.length = s.pool.map.length ∧ ∀ id, id ≠ f.id → u.segment? id = s.segment? id)))

/-- Sample position p of a segment is held in the block at list index ⌊p/64⌋, at offset p mod 64 (R1): after a write of samples at
positions p onward the segment reads them there and its other positions as before, and every byte of the pool outside the written
samples' bytes is unchanged. The order of a sample's two bytes is the model's choice (notes/assumptions/2.md). -/
def Obligations.WrittenSamplesReadBack : Prop :=
  ∀ (m : Memory) (blocks : List Nat) (p : Nat) (xs : List Sample), Memory.wf m = true → blocks.Nodup →
    p + xs.length ≤ 64 * blocks.length →
    (∀ k, p + k < 64 * blocks.length →
      sampleAddr blocks (p + k) = 2 * (64 * blocks.getD ((p + k) / 64) 0 + (p + k) % 64)) ∧
    (∀ k (h : k < xs.length), readSample (writeRun blocks p xs m) blocks (p + k) = xs[k]) ∧
    (∀ q, q < 64 * blocks.length → q < p ∨ p + xs.length ≤ q →
      readSample (writeRun blocks p xs m) blocks q = readSample m blocks q) ∧
    (∀ a, (∀ k, k < xs.length → a ≠ sampleAddr blocks (p + k) ∧ a ≠ sampleAddr blocks (p + k) + 1) →
      readByte (writeRun blocks p xs m) a = readByte m a) ∧
    Memory.wf (writeRun blocks p xs m) = true

/-- SEAL_SEGMENT and DELETE_SEGMENT (R15, R16, R19, R20): the refusals in their order; a sealed segment is READY and the channels
STARVED on it go to PLAYING, no other channel moves; a deleted segment without references is freed without a notice, its
blocks at the tail of the free list; with references a READY one becomes retiring, a FILLING one FAILED and retiring with the
FAILED report. The dispositions FREED 0 and RETIRED 1 are the model's numbers (notes/assumptions/17.md). -/
def Obligations.SealAndDelete : Prop :=
  ∀ (tag id : Byte) (s : State), s.takes tag = true →
    let sealed := exec (.sealSegment tag (.fields id)) s
    let deleted := exec (.deleteSegment tag (.fields id)) s
    (id = 0 ∨ id = 255 → sealed = .next (s.answered tag 0x12 .range []) ∧ deleted = .next (s.answered tag 0x13 .range [])) ∧
    (id ≠ 0 → id ≠ 255 →
      (s.segment? id = none → sealed = .next (s.answered tag 0x12 .noSuchSegment []) ∧
        deleted = .next (s.answered tag 0x13 .noSuchSegment [])) ∧
      (∀ xs g ys, s.pool.map = xs ++ g :: ys → g.id = id → (∀ x ∈ xs, x.id ≠ id) →
        (g.state ≠ .filling → sealed = .next (s.answered tag 0x12 .segmentState [])) ∧
        (g.state = .filling → g.fill < g.length →
          sealed = .next (s.answered tag 0x12 .outOfOrder (u16 g.fill ++ u16 g.length))) ∧
        (g.state = .filling → g.length ≤ g.fill → sealed = .next (State.answered { s with
          pool := { s.pool with map := xs ++ { g with state := .ready } :: ys }
          channels := s.channels.map (fun ch =>
            if ch.state = .starved ∧ ch.queue.head?.map (fun e => e.segment) = some id then { ch with state := .playing } else ch) }
          tag 0x12 .ok (u16 g.fill ++ u16 g.length))) ∧
        (g.retiring = true → deleted = .next (s.answered tag 0x13 .retiring [])) ∧
        (g.retiring = false →
          (g.state = .loading → deleted = .next (s.answered tag 0x13 .segmentBusy [])) ∧
          (g.state ≠ .loading → g.refs = 0 → deleted = .next (State.answered { s with
            pool := { s.pool with free := s.pool.free ++ g.blocks, map := xs ++ ys } } tag 0x13 .ok [0, 0])) ∧
          (g.state ≠ .loading → g.state ≠ .filling → g.refs ≠ 0 → deleted = .next (State.answered { s with
            pool := { s.pool with map := xs ++ { g with retiring := true } :: ys } } tag 0x13 .ok (1 :: u8 g.refs))) ∧
          (g.state = .filling → g.refs ≠ 0 → deleted = .next (State.answered (State.reportFailed { s with
            pool := { s.pool with map := xs ++ { g with state := .failed, retiring := true } :: ys } } id)
            tag 0x13 .ok (1 :: u8 g.refs))))))

/-- A release (R12, R13): refs fall by 1; a retiring or FAILED segment whose last reference it was is freed in it, its blocks at the
tail of the free list, its record out of the map, SEGMENT_FREED produced with its state and origin; every other record stays
as it is. A taken reference raises refs by 1 (R11). -/
def Obligations.ReferencesTakenAndReleased : Prop :=
  ∀ (s : State) (xs ys : List Segment) (g : Segment), s.pool.map = xs ++ g :: ys → (∀ x ∈ xs, x.id ≠ g.id) →
    s.takeRef g.id = { s with pool := { s.pool with map := xs ++ { g with refs := g.refs + 1 } :: ys } } ∧
    (1 < g.refs ∨ (g.retiring = false ∧ g.state ≠ .failed) →
      s.releaseRef g.id = { s with pool := { s.pool with map := xs ++ { g with refs := g.refs - 1 } :: ys } }) ∧
    (g.refs = 1 → g.retiring = true ∨ g.state = .failed → s.releaseRef g.id = { s with
      pool := { s.pool with free := s.pool.free ++ g.blocks, map := xs ++ ys }
      notices := s.notices.produce .segmentFreed (.segment g.id) (u8 g.state.num ++ (match g.origin with
        | .host => [255]
        | .slot n => u8 n.val)) })

/-! ### The channel players (spec 02) -/

/-- CONFIGURE_CHANNEL (R26): RANGE for a channel or a generator above 3, CHANNEL_RUNNING for a channel that is not STOPPED; else the
configuration, the output code and the active generator take the values given, the queue stays, and the reply carries the
new configuration, as the generator and the rest code (notes/assumptions/17.md). -/
def Obligations.ConfigureChannel : Prop :=
  ∀ (tag : Byte) (f : ConfigFields) (s : State), s.takes tag = true →
    let run := exec (.configureChannel tag (.fields f)) s
    (3 < f.channel.toNat ∨ 3 < f.generator.toNat → run = .next (s.answered tag 0x20 .range [])) ∧
    (∀ c g : Fin 4, f.channel.toNat = c.val → f.generator.toNat = g.val →
      ((s.channel c).state ≠ .stopped → run = .next (s.answered tag 0x20 .channelRunning [])) ∧
      ((s.channel c).state = .stopped → run = .next (State.answered
        (s.setChannel c { s.channel c with defaultGen := g, restCode := f.rest, output := f.rest, activeGen := g })
        tag 0x20 .ok (u8 g.val ++ halfBytes f.rest))))

/-- ENQUEUE (R47, R48): the RANGE failures, QUEUE_FULL, NO_SUCH_SEGMENT, SEGMENT_STATE, RETIRING in this order; else the entry with the
fields given and fresh runtime fields stands at the tail, the segment's refs rise by 1, and a DRAINED channel evaluates its
head. The reply carries the queue length after the append and the state reached. -/
def Obligations.EnqueueRequest : Prop :=
  ∀ (tag : Byte) (f : EnqueueFields) (s : State), s.takes tag = true →
    let run := exec (.enqueue tag (.fields f)) s
    let refused := fun st => Host.Outcome.next (s.answered tag 0x21 st [])
    let inRange := f.channel.toNat < 4 ∧ f.segment ≠ 0 ∧ f.segment ≠ 255 ∧ (f.start = 0x80 ∨ f.start.toNat < 8) ∧
      (f.untilTrig = 0xFF ∨ f.untilTrig.toNat < 8) ∧ (f.generator = 0xFF ∨ f.generator.toNat < 4) ∧ f.options.toNat < 4
    (¬inRange → run = refused .range) ∧
    (∀ (c : Fin 4) (e : Entry), inRange → c.val = f.channel.toNat →
      e = { segment := f.segment, repeats := f.repeats.toNat, start := e.start, untilTrig := e.untilTrig,
            endAction := if f.options.toNat % 2 = 1 then .rest else .hold, generator := e.generator,
            notify := decide (2 ≤ f.options.toNat), started := false, passes := 0, cursor := 0, released := false,
            stopPending := false } →
      (f.start = 0x80 → e.start = .immediate) → (∀ h : f.start.toNat < 8, e.start = .onTrigger ⟨f.start.toNat, h⟩) →
      (f.untilTrig = 0xFF → e.untilTrig = none) →
      (∀ h : f.untilTrig.toNat < 8, e.untilTrig = some ⟨f.untilTrig.toNat, h⟩) →
      (f.generator = 0xFF → e.generator = none) → (∀ h : f.generator.toNat < 4, e.generator = some ⟨f.generator.toNat, h⟩) →
      (16 ≤ (s.channel c).queue.length → run = refused .queueFull) ∧
      ((s.channel c).queue.length < 16 → s.segment? f.segment = none → run = refused .noSuchSegment) ∧
      (∀ g, (s.channel c).queue.length < 16 → s.segment? f.segment = some g →
        (g.state = .failed → run = refused .segmentState) ∧
        (g.state ≠ .failed → g.retiring = true → run = refused .retiring) ∧
        (g.state ≠ .failed → g.retiring = false →
          let u : State := State.takeRef
            (s.setChannel c { s.channel c with queue := (s.channel c).queue ++ [e] }) f.segment
          let v := if (s.channel c).state = .drained then u.evaluateHead c else u
          run = .next (v.answered tag 0x21 .ok
            (u8 ((s.channel c).queue.length + 1) ++ u8 (v.channel c).state.num)))))

/-- Head evaluation (R28, R30–R34, R43): the active generator is fixed from the head; an empty queue drains the channel with its
notice; an ON_TRIGGER head waits; an IMMEDIATE head plays on a READY segment, starves with its notice on a FILLING or LOADING
one, and is skipped on a FAILED one: removed, released, ENTRY_SKIPPED, and evaluated again. And the reports that move a STARVED
channel: READY takes each one on the segment to PLAYING, FAILED has each one skip its head, and no other channel acts (R15, R16);
the failure of a LOADING segment releases the job's reference and frees the segment, or keeps it FAILED and retiring with the
FAILED report (R9). A released segment's SEGMENT_FREED before ENTRY_SKIPPED (notes/assumptions/13.md) and the channels in rising
number (notes/assumptions/12.md) are the model's choices. -/
def Obligations.HeadEvaluation : Prop :=
  (∀ (s : State) (c : Fin 4),
    let ch := s.channel c
    (ch.queue = [] → s.evaluateHead c = { s with
      channels := s.channels.set c { ch with state := .drained, activeGen := ch.defaultGen }
      notices := s.notices.produce .drained (.channel c) (u32 ch.counter.toNat) }) ∧
    (∀ e rest, ch.queue = e :: rest →
      let g := e.generator.getD ch.defaultGen
      let begun : Entry := { e with started := true, passes := 0, cursor := 0, released := false, stopPending := false }
      (∀ t, e.start = .onTrigger t → s.evaluateHead c = { s with
        channels := s.channels.set c { ch with state := .waiting, activeGen := g } }) ∧
      (∀ x, e.start = .immediate → s.segment? e.segment = some x →
        (x.state = .ready → s.evaluateHead c = { s with
          channels := s.channels.set c { ch with state := .playing, activeGen := g, queue := begun :: rest } }) ∧
        (x.state = .filling ∨ x.state = .loading → s.evaluateHead c = { s with
          channels := s.channels.set c { ch with state := .starved, activeGen := g, queue := begun :: rest }
          notices := s.notices.produce .starved (.channel c) (e.segment :: u8 x.state.num) }) ∧
        (x.state = .failed → s.evaluateHead c =
          (State.notify .entrySkipped (.channel c) [e.segment]
            (State.releaseRef { s with channels := s.channels.set c { ch with activeGen := g, queue := rest } }
              e.segment)).evaluateHead c)))) ∧
  (∀ (s : State) (id : Byte),
    let starvedOn := fun (t : State) (c : Fin 4) =>
      (t.channel c).state = .starved ∧ (t.channel c).queue.head?.map (fun e => e.segment) = some id
    s.reportReady id = [0, 1, 2, 3].foldl (fun (t : State) (c : Fin 4) => if starvedOn t c then
      { t with channels := t.channels.set c { t.channel c with state := .playing } } else t) s ∧
    s.reportFailed id = [0, 1, 2, 3].foldl (fun (t : State) (c : Fin 4) => if starvedOn t c then
      (State.notify .entrySkipped (.channel c) [id] (State.releaseRef
        { t with channels := t.channels.set c { t.channel c with queue := (t.channel c).queue.tail } } id)).evaluateHead c
      else t) s ∧
    (∀ xs g ys, s.pool.map = xs ++ g :: ys → g.id = id → (∀ x ∈ xs, x.id ≠ id) →
      (g.refs ≤ 1 → s.failLoading id = { s with
        pool := { s.pool with free := s.pool.free ++ g.blocks, map := xs ++ ys }
        notices := s.notices.produce .segmentFreed (.segment id) (3 :: u8 g.origin.num) }) ∧
      (1 < g.refs → s.failLoading id = State.reportFailed { s with pool := { s.pool with
        map := xs ++ { g with state := .failed, retiring := true, refs := g.refs - 1 } :: ys } } id)))

/-- START (R49, R174): RANGE for a mask of 0 or with a bit above bit 3, ALREADY_RUNNING when a channel named is not STOPPED; else each
channel named, in an event of its own, clears its sample counter and evaluates its head, in the order and with the part's events
between them that the command's course gives, each of those with the arbiter's choice at its end as when its command comes alone
(R154); channels the course leaves out follow in rising number, with an empty course nothing falls between, and a start makes no
choice of its own (the model's choices, notes/assumptions/12.md), and the instants of its emissions are forgotten, the model's own
field (notes/assumptions/35.md), and no other channel changes. The reply carries the state
each named channel reached at its start, without a count (notes/assumptions/17.md). A LOAD may complete in the course, so no job
answers this request's tag. -/
def Obligations.StartRequest : Prop :=
  (∀ (tag mask : Byte) (course : List StartStep) (s : State), s.takes tag = true →
    let run := exec (.start tag ⟨.fields mask, course⟩) s
    (mask = 0 ∨ 16 ≤ mask.toNat → run = .next (s.answered tag 0x22 .range [])) ∧
    (mask ≠ 0 → mask.toNat < 16 →
      ((∃ c ∈ named mask, (s.channel c).state ≠ .stopped) → run = .next (s.answered tag 0x22 .alreadyRunning [])) ∧
      ((∀ c ∈ named mask, (s.channel c).state = .stopped) →
        let r := State.startCourse course (named mask) s
        ((∀ j ∈ s.jobs, j.origin ≠ .request tag false) →
          run = .next (r.1.answered tag 0x22 .ok
            ((named mask).flatMap (fun c => u8 ((r.2.lookup c).getD .stopped).num))) ∧
          (r.2.map (fun x => x.1)).Perm (named mask)) ∧
        (course = [] →
          let u := (named mask).foldl
            (fun (u : State) (c : Fin 4) => (u.setChannel c { u.channel c with counter := 0, emittedAt := [] }).evaluateHead c) s
          run = .next (u.answered tag 0x22 .ok ((named mask).flatMap (fun c => u8 (u.channel c).state.num))) ∧
          (∀ c, c ∉ named mask → u.channel c = s.channel c) ∧
          (∀ c ∈ named mask, (u.channel c).counter = 0 ∧ (u.channel c).output = (s.channel c).output ∧
            (u.channel c).state ≠ .stopped))))) ∧
  (∀ (course : List StartStep) (left : List (Fin 4)) (t : State),
    let start := fun (c : Fin 4) => (t.setChannel c { t.channel c with counter := 0, emittedAt := [] }).evaluateHead c
    State.startCourse course [] t = (t, []) ∧
    (∀ c, State.startCourse [] (c :: left) t =
      let r := State.startCourse [] left (start c)
      (r.1, (c, ((start c).channel c).state) :: r.2)) ∧
    (∀ c, c ∈ left → State.startCourse (.channel c :: course) left t =
      let r := State.startCourse course (left.erase c) (start c)
      (r.1, (c, ((start c).channel c).state) :: r.2)) ∧
    (∀ c, c ∉ left → State.startCourse (.channel c :: course) left t = State.startCourse course left t) ∧
    (∀ p, left ≠ [] → (∀ c, p ≠ .channel c) →
      State.startCourse (p :: course) left t = State.startCourse course left (betweenStarts p t)) ∧
    (∀ m, exec (.tick m) t = .next (betweenStarts (.tick m) t)) ∧
    (∀ c g, exec (.tickDelivery c g) t = .next (betweenStarts (.tickDelivery c g) t)) ∧
    (∀ l o, exec (.sample l o) t = .next (betweenStarts (.sample l o) t)) ∧
    (∀ cells, exec (.loadCompletion cells) t = .next (betweenStarts (.loadCompletion cells) t)))

/-- STOP in both modes (R29, R50, R51): RANGE for a mask of 0 or with a bit above bit 3 and for a mode above 1; else, for each
channel named, a STOPPED channel stays; AT_PASS_END sets stop pending on a PLAYING head; in every other case a running channel
enters STOPPED, a started head removed and its reference released, an unstarted one kept; the sample counter stays. No other
channel changes. The channels are visited in rising number (the model's order, notes/assumptions/12.md), and the reply's two
bytes for each named channel stand without a count (notes/assumptions/17.md). -/
def Obligations.StopRequests : Prop :=
  ∀ (tag mask mode : Byte) (s : State), s.takes tag = true →
    (mask = 0 ∨ 16 ≤ mask.toNat ∨ (mode ≠ 0 ∧ mode ≠ 1) →
      exec (.stopImmediate tag (.fields ⟨mask, mode⟩)) s = .next (s.answered tag 0x23 .range [])) ∧
    (mask = 0 ∨ 16 ≤ mask.toNat → exec (.stopAtPassEnd tag mask) s = .next (s.answered tag 0x23 .range [])) ∧
    (mask ≠ 0 → mask.toNat < 16 → ∀ atPassEnd : Bool,
      let removed := fun (c : Fin 4) => (s.channel c).state = .starved ∨ ((s.channel c).state = .playing ∧ atPassEnd = false)
      let stopped := fun (c : Fin 4) =>
        let ch := s.channel c
        if ch.state = .stopped then ch
        else if ch.state = .playing ∧ atPassEnd = true then { ch with queue := match ch.queue with
          | [] => []
          | e :: rest => { e with stopPending := true } :: rest }
        else { ch with
          state := .stopped, output := ch.restCode, m0 := ⟨false, none⟩, m1 := ⟨false, none⟩, activeGen := ch.defaultGen
          queue := if removed c then ch.queue.tail else ch.queue }
      let u : State := (named mask).foldl (fun (t : State) (c : Fin 4) =>
        let v : State := { t with channels := t.channels.set c (stopped c) }
        match (s.channel c).queue with
        | [] => v
        | e :: _ => if removed c then v.releaseRef e.segment else v) s
      (if atPassEnd then exec (.stopAtPassEnd tag mask) s else exec (.stopImmediate tag (.fields ⟨mask, 0⟩)) s) =
        .next (u.answered tag 0x23 .ok ((named mask).flatMap (fun c =>
          (if removed c then 1 else 0) :: u8 (u.channel c).queue.length))) ∧
      u = { s with channels := u.channels, pool := { s.pool with free := u.pool.free, map := u.pool.map }, notices := u.notices } ∧
      (∀ c, u.channel c = if c ∈ named mask then stopped c else s.channel c))

/-- RELEASE (R52): RANGE for a channel above 3, NOTHING_TO_RELEASE without a started head; else released is set on the head alone and
the reply carries its passes done and cursor. -/
def Obligations.ReleaseRequest : Prop :=
  ∀ (tag channel : Byte) (s : State), s.takes tag = true →
    let run := exec (.release tag (.fields channel)) s
    (3 < channel.toNat → run = .next (s.answered tag 0x24 .range [])) ∧
    (∀ c : Fin 4, channel.toNat = c.val →
      ((s.channel c).state ≠ .playing → (s.channel c).state ≠ .starved →
        run = .next (s.answered tag 0x24 .nothingToRelease [])) ∧
      (∀ e rest, (s.channel c).state = .playing ∨ (s.channel c).state = .starved → (s.channel c).queue = e :: rest →
        run = .next (State.answered (s.setChannel c { s.channel c with queue := { e with released := true } :: rest })
          tag 0x24 .ok (u16 e.passes ++ u16 e.cursor))))

/-- FLUSH (R53): RANGE for a channel above 3; else every unstarted entry leaves, from the head end toward the tail, each releasing its
reference; a started head stays; a WAITING channel then drains with its notice; no other channel changes. The reply carries
the number of entries removed and the state after the request. -/
def Obligations.FlushRequest : Prop :=
  ∀ (tag channel : Byte) (s : State), s.takes tag = true →
    let run := exec (.flush tag (.fields channel)) s
    (3 < channel.toNat → run = .next (s.answered tag 0x25 .range [])) ∧
    (∀ c : Fin 4, channel.toNat = c.val →
      let ch := s.channel c
      let started := ch.state = .playing ∨ ch.state = .starved
      let removed := if started then ch.queue.tail else ch.queue
      let u := removed.foldl (fun u e => u.releaseRef e.segment)
        { s with channels := s.channels.set c { ch with queue := if started then ch.queue.take 1 else [] } }
      (ch.state ≠ .waiting → run = .next (u.answered tag 0x25 .ok (u8 removed.length ++ u8 ch.state.num))) ∧
      (ch.state = .waiting → run = .next (State.answered { u with
        channels := u.channels.set c { ch with queue := [], state := .drained, activeGen := ch.defaultGen }
        notices := u.notices.produce .drained (.channel c) (u32 ch.counter.toNat) } tag 0x25 .ok
        (u8 removed.length ++ [4]))))

/-- TICK_DELIVERY (R28, R35, R37, R39–R42): a delivery to a channel that does not play on the generator only ends the pulses that name
it; so does one that R42 takes from a head which a fire mark's firing started, and one is then taken off the head's count
(notes/assumptions/10.md), and one of an instant at which the channel has emitted since its START (R61); else the sample at the
cursor goes out. Of the ticks of two generators at one instant, at most one emits. At a position without marks: within a pass the cursor and the
sample counter rise; at a pass end that does not complete the entry the next pass begins; at one that does, ENTRY_DONE, removal
with release, then STOPPED when stop pending is yes, else head evaluation and the end action. Which of several deliveries comes
first (notes/assumptions/9.md), that nothing happens with none in flight (notes/assumptions/6.md), and that a tick of that
instant emits nothing at a channel which the other has moved to its generator (notes/assumptions/35.md) are the model's choices. -/
def Obligations.TickDelivery : Prop :=
  (∀ (c g h : Fin 4) (s : State) (xs ys xs' ys' : List Delivery) (d d' : Delivery), s.alive = true → g ≠ h →
    s.deliveries = xs ++ d :: ys → d.gen = g → d.chan = c → (∀ x ∈ xs, ¬(x.gen = g ∧ x.chan = c)) →
    s.deliveries = xs' ++ d' :: ys' → d'.gen = h → d'.chan = c → (∀ x ∈ xs', ¬(x.gen = h ∧ x.chan = c)) →
    d.instant = d'.instant →
    ∃ t u, exec (.tickDelivery c g) s = .next t ∧ exec (.tickDelivery c h) t = .next u ∧
      ((u.channel c).counter = (s.channel c).counter ∨ (u.channel c).counter = (s.channel c).counter + 1)) ∧
  ∀ (c g : Fin 4) (s : State), s.alive = true →
    let ended := fun l : MarkerLine => if l.pulse = some g then ⟨false, none⟩ else l
    ((∀ d ∈ s.deliveries, ¬(d.gen = g ∧ d.chan = c)) → exec (.tickDelivery c g) s = .next s.arbitrate) ∧
    (∀ xs d ys, s.deliveries = xs ++ d :: ys → d.gen = g → d.chan = c → (∀ x ∈ xs, ¬(x.gen = g ∧ x.chan = c)) →
      let ch := s.channel c
      let u : State := { s with deliveries := xs ++ ys }
      (∀ e rest, ch.activeGen = g → ch.queue = e :: rest → 0 < e.spent →
        exec (.tickDelivery c g) s = .next (State.arbitrate { u with channels := s.channels.set c { ch with
          m0 := ended ch.m0, m1 := ended ch.m1, queue := { e with spent := e.spent - 1 } :: rest } })) ∧
      (ch.state ≠ .playing ∨ ch.activeGen ≠ g ∨ d.instant ∈ ch.emittedAt → (∀ e ∈ ch.queue.head?, e.spent = 0 ∨ ch.activeGen ≠ g) →
        exec (.tickDelivery c g) s = .next (State.arbitrate { u with
          channels := s.channels.set c { ch with m0 := ended ch.m0, m1 := ended ch.m1 } })) ∧
      (∀ e rest x, ch.state = .playing → ch.activeGen = g → d.instant ∉ ch.emittedAt → ch.queue = e :: rest → e.spent = 0 →
        s.segment? e.segment = some x → (∀ m ∈ x.marks, m.position ≠ e.cursor) →
        let passes := if e.repeats = 0 ∧ 65535 ≤ e.passes then 65535 else e.passes + 1
        let completes := (0 < e.repeats ∧ passes = e.repeats) ∨ e.released = true ∨ e.stopPending = true
        let played : Channel := { ch with
          m0 := ended ch.m0, m1 := ended ch.m1, output := readSample s.pool.mem x.blocks e.cursor, counter := ch.counter + 1
          emittedAt := d.instant :: ch.emittedAt.filter
            (fun i => decide (d.instant < i ∨ ∃ x ∈ xs ++ ys, x.chan = c ∧ x.instant = i)) }
        let done := if e.notify = true then s.notices.produce .entryDone (.channel c) (e.segment :: u16 passes) else s.notices
        let left := fun ch : Channel => State.releaseRef { u with channels := s.channels.set c ch, notices := done } e.segment
        (e.cursor + 1 ≠ x.length → exec (.tickDelivery c g) s = .next (State.arbitrate { u with
          channels := s.channels.set c { played with queue := { e with cursor := e.cursor + 1 } :: rest } })) ∧
        (e.cursor + 1 = x.length → ¬completes → exec (.tickDelivery c g) s = .next (State.arbitrate { u with
          channels := s.channels.set c { played with queue := { e with cursor := 0, passes := passes } :: rest } })) ∧
        (e.cursor + 1 = x.length → e.stopPending = true → exec (.tickDelivery c g) s = .next (State.arbitrate
          (left { played with queue := rest, state := .stopped, output := ch.restCode, m0 := ⟨false, none⟩
                              m1 := ⟨false, none⟩, activeGen := ch.defaultGen }))) ∧
        (e.cursor + 1 = x.length → completes → e.stopPending = false →
          let v := (left { played with queue := rest }).evaluateHead c
          exec (.tickDelivery c g) s = .next (State.arbitrate
            (if e.endAction = .rest ∧ (v.channel c).state ≠ .playing then
              { v with channels := v.channels.set c { v.channel c with output := ch.restCode } } else v)))))

/-- A mark at the emitted position (R36–R38, R78): SET, CLEAR, TOGGLE and PULSE on the line it names, a pending pulse absent after the
first three and naming the tick's generator after PULSE; NONE and the other line untouched; a fire mark of an OFF trigger has
no further effect, and another makes a firing of its trigger within the tick. And a TICK_DELIVERY at any position (R35, R39–R41): the
sample goes out, the marks of the position act in list order, and the steps that follow see what they left, an entry released by its
own fire mark among it. The model's choices: which delivery comes first (notes/assumptions/9.md), that a head lets pass the
deliveries counted at its start (R42, notes/assumptions/10.md), and that a tick of an instant at which the channel has
emitted emits nothing (R61, notes/assumptions/35.md); such deliveries stand in statement TickDelivery. -/
def Obligations.MarksAct : Prop :=
  (∀ (c g : Fin 4) (n : Word) (m : Mark) (s : State),
    let ch := s.channel c
    let old := match m.line with
      | .m0 => ch.m0
      | .m1 => ch.m1
    let new : MarkerLine := match m.action with
      | .none => old
      | .set => ⟨true, none⟩
      | .clear => ⟨false, none⟩
      | .toggle => ⟨!old.level, none⟩
      | .pulse => ⟨true, some g⟩
    let u : State := { s with channels := s.channels.set c (match m.line with
      | .m0 => { ch with m0 := new }
      | .m1 => { ch with m1 := new }) }
    (m.fire = none → s.applyMark c g n m = u) ∧
    (∀ t, m.fire = some t →
      ((s.trigger t).mode = .off → s.applyMark c g n m = u) ∧
      ((s.trigger t).mode ≠ .off → s.applyMark c g n m = u.fireTrigger t (some (g, n))))) ∧
  (∀ (c g : Fin 4) (s : State) (xs ys : List Delivery) (d : Delivery) (e : Entry) (rest : List Entry) (x : Segment),
    s.alive = true → s.deliveries = xs ++ d :: ys → d.gen = g → d.chan = c → (∀ y ∈ xs, ¬(y.gen = g ∧ y.chan = c)) →
    d.instant ∉ (s.channel c).emittedAt → (s.channel c).state = .playing → (s.channel c).activeGen = g →
    (s.channel c).queue = e :: rest → e.spent = 0 →
    s.segment? e.segment = some x →
    let ended := fun l : MarkerLine => if l.pulse = some g then ⟨false, none⟩ else l
    let here := x.marks.filter (fun m => decide (m.position = e.cursor))
    let t := here.foldl (fun (t : State) m => t.applyMark c g d.tick m) { s with
      deliveries := xs ++ ys
      channels := s.channels.set c { s.channel c with
        m0 := ended (s.channel c).m0, m1 := ended (s.channel c).m1, output := readSample s.pool.mem x.blocks e.cursor
        emittedAt := d.instant :: (s.channel c).emittedAt.filter
          (fun i => decide (d.instant < i ∨ ∃ x ∈ xs ++ ys, x.chan = c ∧ x.instant = i)) } }
    let freed := decide (e.released = true ∨
      ∃ m ∈ here, ∃ k, m.fire = some k ∧ (s.trigger k).mode ≠ .off ∧ e.untilTrig = some k)
    let passes := if e.repeats = 0 ∧ 65535 ≤ e.passes then 65535 else e.passes + 1
    let completes := (0 < e.repeats ∧ passes = e.repeats) ∨ freed = true ∨ e.stopPending = true
    let played : Channel := { t.channel c with counter := (s.channel c).counter + 1 }
    let done := if e.notify = true then t.notices.produce .entryDone (.channel c) (e.segment :: u16 passes) else t.notices
    let left := fun ch : Channel => State.releaseRef { t with channels := t.channels.set c ch, notices := done } e.segment
    (t.channel c).queue = { e with released := freed } :: rest ∧
    (e.cursor + 1 ≠ x.length → exec (.tickDelivery c g) s = .next (State.arbitrate { t with
      channels := t.channels.set c { played with queue := { e with released := freed, cursor := e.cursor + 1 } :: rest } })) ∧
    (e.cursor + 1 = x.length → ¬completes → exec (.tickDelivery c g) s = .next (State.arbitrate { t with
      channels := t.channels.set c { played with queue := { e with cursor := 0, passes := passes } :: rest } })) ∧
    (e.cursor + 1 = x.length → e.stopPending = true → exec (.tickDelivery c g) s = .next (State.arbitrate
      (left { played with queue := rest, state := .stopped, output := (s.channel c).restCode, m0 := ⟨false, none⟩
                          m1 := ⟨false, none⟩, activeGen := (s.channel c).defaultGen }))) ∧
    (e.cursor + 1 = x.length → completes → e.stopPending = false →
      let v := (left { played with queue := rest }).evaluateHead c
      exec (.tickDelivery c g) s = .next (State.arbitrate
        (if e.endAction = .rest ∧ (v.channel c).state ≠ .playing then
          { v with channels := v.channels.set c { v.channel c with output := (s.channel c).restCode } } else v))))

/-- A firing of a trigger (R31, R42–R44, R76, R80): the fire count rises, the captured levels take the confirmed levels, and each channel
acts on its head as it stands, in rising number (the model's order, notes/assumptions/12.md): one WAITING on the trigger has its
start condition met and so plays, starves with its notice, or skips the head with its release and its notices; a started head that
names the trigger as until is released and not started anew; every other channel stays. With notify, TRIGGER_FIRED follows the
channels' notices. A head that a tick's fire mark starts on the tick's generator counts the deliveries in flight that emit nothing
for it, those of that tick and of earlier ones (R42, notes/assumptions/10.md). In a skip SEGMENT_FREED stands before ENTRY_SKIPPED
(notes/assumptions/13.md), and a head whose segment has no record is skipped (notes/assumptions/24.md): the model's choices. -/
def Obligations.FiringsReachTheChannels : Prop :=
  ∀ (k : Fin 8) (tick : Option (Fin 4 × Word)) (s : State),
    let put := fun (t : State) (c : Fin 4) (st : ChanState) (q : List Entry) =>
      ({ t with channels := t.channels.set c { t.channel c with state := st, queue := q } } : State)
    let starts := fun (t : State) (c : Fin 4) (e : Entry) (rest : List Entry) =>
      let begun : Entry := { e with started := true, passes := 0, cursor := 0, released := false, stopPending := false }
      match (t.segment? e.segment).map (fun x => x.state) with
      | some .ready => put t c .playing (begun :: rest)
      | some .filling => State.notify .starved (.channel c) [e.segment, 0] (put t c .starved (begun :: rest))
      | some .loading => State.notify .starved (.channel c) [e.segment, 1] (put t c .starved (begun :: rest))
      | _ => (State.notify .entrySkipped (.channel c) [e.segment]
          (State.releaseRef (put t c .waiting rest) e.segment)).evaluateHead c
    let holds := fun (t : State) (c : Fin 4) => match tick, (t.channel c).queue with
      | some (g, n), e :: rest =>
        if ((t.channel c).state = .playing ∨ (t.channel c).state = .starved) ∧ (t.channel c).activeGen = g then
          put t c (t.channel c).state ({ e with spent := t.deliveries.countP (fun d =>
            decide (d.gen = g ∧ d.chan = c ∧ (n - d.tick).toNat < 2147483648)) } :: rest)
        else t
      | _, _ => t
    let acts := fun (t : State) (c : Fin 4) => match (t.channel c).state, (t.channel c).queue with
      | .waiting, e :: rest => if e.start = .onTrigger k then holds (starts t c e rest) c else t
      | .playing, e :: rest => if e.untilTrig = some k then put t c .playing ({ e with released := true } :: rest) else t
      | .starved, e :: rest => if e.untilTrig = some k then put t c .starved ({ e with released := true } :: rest) else t
      | _, _ => t
    let fired : Trigger := { s.trigger k with fires := (s.trigger k).fires + 1, captured := s.trig.confirmed }
    let u := [0, 1, 2, 3].foldl acts { s with trig := { s.trig with triggers := s.trig.triggers.set k fired } }
    s.fireTrigger k tick = (if fired.notify = true
      then u.notify .triggerFired (.trigger k) (fired.captured :: u32 fired.fires.toNat) else u) ∧
    u = { s with
      trig := { s.trig with triggers := s.trig.triggers.set k fired }
      channels := u.channels, notices := u.notices, pool := { s.pool with free := u.pool.free, map := u.pool.map } } ∧
    (∀ c, (s.channel c).waitsOn ≠ some k → (s.channel c).untilOf ≠ some k → u.channel c = s.channel c) ∧
    ((∀ c, (s.channel c).waitsOn ≠ some k) → u.pool = s.pool ∧ u.notices = s.notices)


/-! ### The rate generators (spec 03) -/

/-- SET_RATE (R62): RANGE for a generator above 3 or a divider outside 24–16,777,216; else the divider takes the value, a RUNNING
generator begins a new period, and the tick count stays. The reply carries the generator, the divider, the run state and the
tick count. -/
def Obligations.SetRate : Prop :=
  ∀ (tag : Byte) (f : RateFields) (s : State), s.takes tag = true →
    let run := exec (.setRate tag (.fields f)) s
    (3 < f.generator.toNat ∨ f.divider.toNat < 24 ∨ 16777216 < f.divider.toNat →
      run = .next (s.answered tag 0x30 .range [])) ∧
    (∀ g : Fin 4, f.generator.toNat = g.val → 24 ≤ f.divider.toNat → f.divider.toNat ≤ 16777216 →
      let x := s.generator g
      let y : Generator := { x with divider := f.divider.toNat, elapsed := if x.running = true then 0 else x.elapsed }
      run = .next (State.answered (s.setGenerator g y) tag 0x30 .ok
        (u8 g.val ++ u32 f.divider.toNat ++ yesNo x.running ++ u32 x.ticks.toNat)))

/-- RUN_RATES and HALT_RATES (R64, R65): RANGE for a mask of 0 or with a bit above bit 3; else every generator named that is in the
other run state changes it with elapsed 0, a named one already there and every other are left as they are. The replies carry
the masks of those changed, and of those already RUNNING or the tick counts of those named, without a count of them
(notes/assumptions/17.md). A tick made
before a halt stays in flight and acts when it is taken (the model's choice, notes/assumptions/37.md). -/
def Obligations.RunAndHaltRates : Prop :=
  ∀ (tag mask : Byte) (s : State), s.takes tag = true →
    (mask = 0 ∨ 16 ≤ mask.toNat →
      exec (.runRates tag (.fields mask)) s = .next (s.answered tag 0x31 .range []) ∧
      exec (.haltRates tag (.fields mask)) s = .next (s.answered tag 0x32 .range [])) ∧
    (mask ≠ 0 → mask.toNat < 16 →
      (∃ (u : State) (changed already : Byte),
        exec (.runRates tag (.fields mask)) s = .next (u.answered tag 0x31 .ok [changed, already]) ∧
        u = { s with generators := u.generators } ∧
        (∀ g, u.generator g = if mask.getLsbD g.val = true ∧ (s.generator g).running = false
          then { s.generator g with running := true, elapsed := 0 } else s.generator g) ∧
        changed.toNat < 16 ∧ already.toNat < 16 ∧
        (∀ g : Fin 4, changed.getLsbD g.val = (mask.getLsbD g.val && !(s.generator g).running)) ∧
        (∀ g : Fin 4, already.getLsbD g.val = (mask.getLsbD g.val && (s.generator g).running))) ∧
      (∃ (u : State) (changed : Byte),
        exec (.haltRates tag (.fields mask)) s = .next (u.answered tag 0x32 .ok
          (changed :: (named mask).flatMap (fun g => u32 (s.generator g).ticks.toNat))) ∧
        u = { s with generators := u.generators } ∧
        (∀ g, u.generator g = if mask.getLsbD g.val = true ∧ (s.generator g).running = true
          then { s.generator g with running := false, elapsed := 0 } else s.generator g) ∧
        changed.toNat < 16 ∧
        (∀ g : Fin 4, changed.getLsbD g.val = (mask.getLsbD g.val && (s.generator g).running))))

/-- TICK (R59, R60, R61): a RUNNING generator counts the tick, begins the next period, and hands one delivery to each channel that is
in a running state with it as active generator or holds a pulse that names it; a HALTED one makes none (the model's reading of a
tick that cannot come, notes/assumptions/6.md). The tick is of the instant of the tick made last where the command says so and its
generator has made none at that instant, and else of the next one (the model's numbering, notes/assumptions/35.md). -/
def Obligations.TickIsMade : Prop :=
  ∀ (g : Fin 4) (together : Bool) (s : State), s.alive = true →
    let tickedAt := fun (h : Fin 4) => (s.generator h).tickedAt
    let last := max (max (tickedAt 0) (tickedAt 1)) (max (tickedAt 2) (tickedAt 3))
    let instant := if together = true ∧ tickedAt g < last then last else last + 1
    ((s.generator g).running = false → exec (.tick ⟨g, together⟩) s = .next s.arbitrate) ∧
    ((s.generator g).running = true → ∃ made : List Delivery,
      exec (.tick ⟨g, together⟩) s = .next (State.arbitrate { s.setGenerator g
          { s.generator g with ticks := (s.generator g).ticks + 1, elapsed := 0, tickedAt := instant } with
        deliveries := s.deliveries ++ made }) ∧
      (made.map (fun d => d.chan)).Nodup ∧
      ∀ d, d ∈ made ↔ d.gen = g ∧ d.tick = (s.generator g).ticks + 1 ∧ d.instant = instant ∧
        (((s.channel d.chan).state ≠ .stopped ∧ (s.channel d.chan).activeGen = g) ∨
          (s.channel d.chan).m0.pulse = some g ∨ (s.channel d.chan).m1.pulse = some g))

/-- SET_INPUTS (R75): RANGE for a divider below 24 or a confirm count outside 1–8; else the settings take the values, a new sampler
period begins, every run count becomes 0, and all else is kept. The reply carries the settings and the confirmed levels, in one byte
with INn in bit n (notes/assumptions/17.md). -/
def Obligations.SetInputs : Prop :=
  ∀ (tag : Byte) (f : InputsFields) (s : State), s.takes tag = true →
    let run := exec (.setInputs tag (.fields f)) s
    (f.divider.toNat < 24 ∨ f.confirm.toNat < 1 ∨ 8 < f.confirm.toNat → run = .next (s.answered tag 0x40 .range [])) ∧
    (24 ≤ f.divider.toNat → 1 ≤ f.confirm.toNat → f.confirm.toNat ≤ 8 →
      run = .next (State.answered { s with trig := { s.trig with
          divider := f.divider.toNat, confirm := f.confirm.toNat, elapsed := 0, runs := Vector.replicate 8 0 } }
        tag 0x40 .ok (halfBytes f.divider ++ [f.confirm, s.trig.confirmed])))

/-- DEFINE_TRIGGER (R79, R81): the RANGE failures; else the six definition fields take the values given, the occurrence count becomes
0, matched is set from the confirmed levels for a MATCH trigger of a sampled unit and is no otherwise, the fire count and the
captured levels are kept, and no channel moves. -/
def Obligations.DefineTrigger : Prop :=
  ∀ (tag : Byte) (f : TriggerFields) (s : State), s.takes tag = true →
    let run := exec (.defineTrigger tag (.fields f)) s
    let inRange := f.trigger.toNat < 8 ∧ f.mode.toNat < 4 ∧ f.edge.toNat < 3 ∧ f.prescale ≠ 0 ∧
      ¬((f.mode = 1 ∨ f.mode = 2) ∧ f.mask = 0)
    (¬inRange → run = .next (s.answered tag 0x41 .range [])) ∧
    (∀ (k : Fin 8) (m : TrigMode) (e : Edge), inRange → f.trigger.toNat = k.val → f.mode.toNat = m.num → f.edge.toNat = e.num →
      let hit := s.trig.sampled && decide (m = .matching) && decide (s.trig.confirmed &&& f.mask = f.pattern &&& f.mask)
      run = .next (State.answered (s.setTrigger k { s.trigger k with
          mode := m, mask := f.mask, pattern := f.pattern, edge := e, prescale := f.prescale.toNat
          notify := decide (f.notify ≠ 0), count := 0, matched := hit }) tag 0x41 .ok
        ([f.mode, f.mask, f.pattern, f.edge, f.prescale] ++ yesNo (decide (f.notify ≠ 0)) ++ yesNo hit ++
          u32 (s.trigger k).fires.toNat)))

/-- FIRE (R77): RANGE for a trigger above 7, TRIGGER_OFF for one that is OFF; else the trigger fires at once (statement
FiringsReachTheChannels says what a firing does) and the reply carries the fire count after it and the captured levels, in one byte
with INn in bit n (the model's layout, notes/assumptions/17.md). -/
def Obligations.FireRequest : Prop :=
  ∀ (tag trigger : Byte) (s : State), s.takes tag = true →
    let run := exec (.fire tag (.fields trigger)) s
    (7 < trigger.toNat → run = .next (s.answered tag 0x42 .range [])) ∧
    (∀ t : Fin 8, trigger.toNat = t.val →
      ((s.trigger t).mode = .off → run = .next (s.answered tag 0x42 .triggerOff [])) ∧
      ((s.trigger t).mode ≠ .off → run = .next (State.answered (s.fireTrigger t none) tag 0x42 .ok
        (u32 ((s.trigger t).fires + 1).toNat ++ [s.trig.confirmed]))))

/-- SAMPLE (R69–R76). The first sample after a reset sets every confirmed level and makes no change; a MATCH trigger takes its matched
from the levels, without an occurrence. A later one confirms each line after as many samples in a row as the confirm count, makes
one occurrence of a CHANGE trigger whose mask holds a line changed in a selected direction and of a MATCH trigger that arrives at
its pattern, and fires each trigger whose count of occurrences reaches its prescale, capturing the new levels (statement
FiringsReachTheChannels says what a firing does); where none fires, nothing but the Trigger Unit changes. The order of triggers
that fire together is the command's, those it lists first and then the others in rising number, and all of them fire in the
event of the sample (the model's choices, notes/assumptions/11.md). -/
def Obligations.SampleIsTaken : Prop :=
  ∀ (levels : Byte) (order : List (Fin 8)) (s : State), s.alive = true →
    (s.trig.sampled = false → ∃ u : State, exec (.sample levels order) s = .next u.arbitrate ∧
      u = { s with trig := { s.trig with
              elapsed := 0, sampled := true, raw := levels, confirmed := levels, runs := Vector.replicate 8 0
              triggers := u.trig.triggers } } ∧
      ∀ k, let hit := decide (levels &&& (s.trigger k).mask = (s.trigger k).pattern &&& (s.trigger k).mask)
        u.trigger k = { s.trigger k with
          matched := if (s.trigger k).mode = .matching then hit else (s.trigger k).matched }) ∧
    (s.trig.sampled = true → ∃ now : Byte,
      let old := s.trig.confirmed
      let changed := fun (t : Trigger) => match t.edge with
        | .rise => decide (now &&& ~~~old &&& t.mask ≠ 0)
        | .fall => decide (old &&& ~~~now &&& t.mask ≠ 0)
        | .any => decide ((now ^^^ old) &&& t.mask ≠ 0)
      let hit := fun (t : Trigger) => decide (now &&& t.mask = t.pattern &&& t.mask)
      let occurs := fun (t : Trigger) => match t.mode with
        | .change => changed t
        | .matching => hit t && !t.matched
        | _ => false
      let fires := fun (k : Fin 8) => occurs (s.trigger k) && decide ((s.trigger k).count + 1 = (s.trigger k).prescale)
      let examined : State := { s with trig := { s.trig with
        elapsed := 0, raw := levels, confirmed := now
        runs := Vector.ofFn (fun n : Fin 8 =>
          if levels.getLsbD n.val = old.getLsbD n.val ∨ s.trig.runs[n] + 1 = s.trig.confirm then 0 else s.trig.runs[n] + 1)
        triggers := Vector.ofFn (fun k : Fin 8 => { s.trigger k with
          matched := if (s.trigger k).mode = .matching then hit (s.trigger k) else (s.trigger k).matched
          count := if fires k then 0 else if occurs (s.trigger k) then (s.trigger k).count + 1 else (s.trigger k).count }) } }
      let inOrder := order.eraseDups ++ [0, 1, 2, 3, 4, 5, 6, 7].filter (fun k => !order.contains k)
      let u := (inOrder.filter fires).foldl (fun (t : State) k => t.fireTrigger k none) examined
      exec (.sample levels order) s = .next u.arbitrate ∧
      (∀ n : Fin 8, now.getLsbD n.val =
        (if s.trig.runs[n] + 1 = s.trig.confirm then levels.getLsbD n.val else old.getLsbD n.val)) ∧
      (∀ k, u.trigger k = { examined.trigger k with
        fires := if fires k then (s.trigger k).fires + 1 else (s.trigger k).fires
        captured := if fires k then now else (s.trigger k).captured }) ∧
      ((∀ k, fires k = false) → u.channels = s.channels ∧ u.pool = s.pool ∧ u.notices = s.notices))


/-! ### The library store and the store jobs (spec 05, spec 06) -/

/-- SAVE (R92, R105, R106): the refusals in their order; else the segment's refs rise by 1 and the job is accepted. -/
def Obligations.SaveRequest : Prop :=
  ∀ (tag : Byte) (f : SaveFields) (s : State), s.takes tag = true →
    let run := exec (.save tag (.fields f)) s
    let refused := fun st => Host.Outcome.next (s.answered tag 0x60 st [])
    let inRange := f.slot.toNat < 32 ∧ f.id ≠ 0 ∧ f.id ≠ 255 ∧ f.label.length ≤ 12 ∧
      ∀ c ∈ f.label, 0x20 ≤ c.toNat ∧ c.toNat ≤ 0x7E
    (4 ≤ s.jobs.length → run = refused .jobsFull) ∧
    (s.jobs.length < 4 → ¬inRange → run = refused .range) ∧
    (∀ n : Fin 32, s.jobs.length < 4 → inRange → f.slot.toNat = n.val →
      let x := s.slot n
      ((∃ j ∈ s.jobs, j.work.slot? = some n) → run = refused .slotBusy) ∧
      ((∀ j ∈ s.jobs, j.work.slot? ≠ some n) →
        (x.freeze = true → run = refused .slotFrozen) ∧
        (x.freeze = false → x.lock = .locked → run = refused .slotLocked) ∧
        (x.freeze = false → x.lock = .unlocked →
          (s.segment? f.id = none → run = refused .noSuchSegment) ∧
          (∀ g, s.segment? f.id = some g →
            (g.state ≠ .ready ∨ g.retiring = true → run = refused .segmentState) ∧
            (g.state = .ready → g.retiring = false →
              (x.stored ≠ .blank → run = refused .slotNotBlank) ∧
              (x.stored = .blank → 100000 ≤ x.saveCount → run = refused .slotWorn) ∧
              (x.stored = .blank → x.saveCount < 100000 → run = .next (State.awaited
                ((s.takeRef f.id).accept (.save n f.id f.label) (.request tag false) ((g.length + 63) / 64)) tag 0x60)))))))

/-- LOAD (R24, R105, R107): the refusals in their order; else the LOADING segment is created from the slot's header with the job's
reference and the job is accepted. -/
def Obligations.LoadRequest : Prop :=
  ∀ (tag : Byte) (f : LoadFields) (s : State), s.takes tag = true →
    let run := exec (.load tag (.fields f)) s
    let refused := fun st => Host.Outcome.next (s.answered tag 0x61 st [])
    let inRange := f.slot.toNat < 32 ∧ f.id ≠ 0 ∧ f.id ≠ 255
    (4 ≤ s.jobs.length → run = refused .jobsFull) ∧
    (s.jobs.length < 4 → ¬inRange → run = refused .range) ∧
    (∀ n : Fin 32, s.jobs.length < 4 → inRange → f.slot.toNat = n.val →
      let x := s.slot n
      let k := (x.length + 63) / 64
      ((∃ j ∈ s.jobs, j.work.slot? = some n) → run = refused .slotBusy) ∧
      ((∀ j ∈ s.jobs, j.work.slot? ≠ some n) →
        (x.stored ≠ .stored → run = refused .slotEmpty) ∧
        (x.stored = .stored →
          ((s.segment? f.id).isSome = true → run = refused .idInUse) ∧
          (s.segment? f.id = none → 96 ≤ s.pool.map.length → run = refused .mapFull) ∧
          (s.segment? f.id = none → s.pool.map.length < 96 → s.pool.free.length < k → run = refused .poolFull) ∧
          (s.segment? f.id = none → s.pool.map.length < 96 → k ≤ s.pool.free.length → ∃ u : State,
            run = .next (State.awaited (u.acceptLoad n f.id (.request tag false) k) tag 0x61) ∧
            u = { s with pool := { s.pool with free := s.pool.free.drop k, map := u.pool.map } } ∧
            u.segment? f.id = some
              { id := f.id, state := .loading, length := x.length, fill := 0, blocks := s.pool.free.take k, marks := x.marks,
                refs := 1, retiring := false, origin := .slot n } ∧
            u.pool.map.length = s.pool.map.length + 1 ∧ ∀ id, id ≠ f.id → u.segment? id = s.segment? id))))

/-- ERASE, SET_LOCK, SAVE_PLAN and CLEAR_PLAN (R92, R97, R105): the refusals in their order, the PLAN_INVALID one with the first
failing step or absent and the check's number; else the job is accepted. -/
def Obligations.OtherStoreRequests : Prop :=
  ∀ (tag : Byte) (s : State), s.takes tag = true →
    let busy := fun (n : Fin 32) => ∃ j ∈ s.jobs, j.work.slot? = some n
    let planBusy := ∃ j ∈ s.jobs, j.work.isPlan = true
    let cleared := exec (.clearPlan tag (.fields ())) s
    (∀ slot,
      let run := exec (.erase tag (.fields slot)) s
      let refused := fun st => Host.Outcome.next (s.answered tag 0x62 st [])
      (4 ≤ s.jobs.length → run = refused .jobsFull) ∧
      (s.jobs.length < 4 → 32 ≤ slot.toNat → run = refused .range) ∧
      (∀ n : Fin 32, s.jobs.length < 4 → slot.toNat = n.val →
        (busy n → run = refused .slotBusy) ∧
        (¬busy n → (s.slot n).freeze = true → run = refused .slotFrozen) ∧
        (¬busy n → (s.slot n).freeze = false → (s.slot n).lock = .locked → run = refused .slotLocked) ∧
        (¬busy n → (s.slot n).freeze = false → (s.slot n).lock = .unlocked →
          run = .next (State.awaited (s.accept (.erase n) (.request tag false) 0) tag 0x62)))) ∧
    (∀ f : LockFields,
      let run := exec (.setLock tag (.fields f)) s
      let refused := fun st => Host.Outcome.next (s.answered tag 0x63 st [])
      (4 ≤ s.jobs.length → run = refused .jobsFull) ∧
      (s.jobs.length < 4 → 32 ≤ f.slot.toNat ∨ 1 < f.level.toNat → run = refused .range) ∧
      (∀ (n : Fin 32) (l : Lock), s.jobs.length < 4 → f.slot.toNat = n.val → f.level.toNat = l.num →
        (busy n → run = refused .slotBusy) ∧
        (¬busy n → l = .unlocked → (s.slot n).freeze = true → run = refused .slotFrozen) ∧
        (¬busy n → l = .locked ∨ (s.slot n).freeze = false →
          run = .next (State.awaited (s.accept (.setLock n l) (.request tag false) 0) tag 0x63)))) ∧
    (∀ f : PlanFields,
      let run := exec (.savePlan tag (.fields f)) s
      (4 ≤ s.jobs.length → run = .next (s.answered tag 0x65 .jobsFull [])) ∧
      (∀ i k, s.jobs.length < 4 → planCheck f = some (i, k) →
        run = .next (s.answered tag 0x65 .planInvalid (optByte i ++ u8 k))) ∧
      (s.jobs.length < 4 → planCheck f = none →
        (planBusy → run = .next (s.answered tag 0x65 .slotBusy [])) ∧
        (¬planBusy → run = .next
          (State.awaited (s.accept (.savePlan ⟨f.runOn, f.steps⟩) (.request tag false) 0) tag 0x65)))) ∧
    (4 ≤ s.jobs.length → cleared = .next (s.answered tag 0x66 .jobsFull [])) ∧
    (s.jobs.length < 4 → planBusy → cleared = .next (s.answered tag 0x66 .slotBusy [])) ∧
    (s.jobs.length < 4 → ¬planBusy →
      cleared = .next (State.awaited (s.accept .clearPlan (.request tag false) 0) tag 0x66))

/-- The check of a plan record (R97, R175): it passes exactly when the count is 1–24 and the run-on set one of the three causes, every
step is of a known code and in the ranges of its request, LOAD steps name different ids, each ENQUEUE step follows a LOAD step of its
id, no channel has more than 16 ENQUEUE steps, and no START or CONFIG step names a channel of an earlier START step. A failure of the
first check names no step; one of another names the first step at which that check fails, where every check before it passes on the
whole record. Which step that is, the later of two that clash, is read from the order of the checks (notes/assumptions/25.md). -/
def Obligations.PlanRecordIsChecked : Prop :=
  ∀ f : PlanFields,
    let one := 1 ≤ f.count.toNat ∧ f.count.toNat ≤ 24 ∧ f.runOn.toNat < 8
    let inRange := fun (p : PlanStep) => match p with
      | .load l => l.slot.toNat < 32 ∧ l.id ≠ 0 ∧ l.id ≠ 255
      | .config k => k.channel.toNat < 4 ∧ k.generator.toNat < 4
      | .rate r => r.generator.toNat < 4 ∧ 24 ≤ r.divider.toNat ∧ r.divider.toNat ≤ 16777216
      | .inputs i => 24 ≤ i.divider.toNat ∧ 1 ≤ i.confirm.toNat ∧ i.confirm.toNat ≤ 8
      | .trigger t => t.trigger.toNat < 8 ∧ t.mode.toNat < 4 ∧ t.edge.toNat < 3 ∧ t.prescale ≠ 0 ∧
          ¬((t.mode = 1 ∨ t.mode = 2) ∧ t.mask = 0)
      | .enqueue e => e.channel.toNat < 4 ∧ e.segment ≠ 0 ∧ e.segment ≠ 255 ∧ (e.start = 0x80 ∨ e.start.toNat < 8) ∧
          (e.untilTrig = 0xFF ∨ e.untilTrig.toNat < 8) ∧ (e.generator = 0xFF ∨ e.generator.toNat < 4) ∧ e.options.toNat < 4
      | .run m => m ≠ 0 ∧ m.toNat < 16
      | .start m => m ≠ 0 ∧ m.toNat < 16
    let check : Nat → List PlanStep → Prop := fun k ps => match k with
      | 2 => ∀ p ∈ ps, inRange p
      | 3 => ∀ xs l ys, ps = xs ++ .load l :: ys → ∀ l', .load l' ∈ xs → l'.id ≠ l.id
      | 4 => ∀ xs e ys, ps = xs ++ .enqueue e :: ys → ∃ l, .load l ∈ xs ∧ l.id = e.segment
      | 5 => ∀ c, ps.countP (fun p => match p with
          | .enqueue e => e.channel == c
          | _ => false) ≤ 16
      | _ => (∀ xs m ys, ps = xs ++ .start m :: ys → ∀ m', .start m' ∈ xs → m' &&& m = 0) ∧
          (∀ xs g ys, ps = xs ++ .config g :: ys → ∀ m', .start m' ∈ xs → m'.getLsbD g.channel.toNat = false)
    let firstFails := fun (k n : Nat) => ∃ xs p ys, f.steps = xs ++ p :: ys ∧ xs.length = n ∧ check k xs ∧ ¬check k (xs ++ [p])
    (planCheck f = none ↔ one ∧ f.rest = [] ∧ ∀ k, 2 ≤ k → k ≤ 6 → check k f.steps) ∧
    (planCheck f = some (none, 1) ↔ ¬one) ∧
    (∀ n, planCheck f = some (some n, 2) ↔
      one ∧ (firstFails 2 n ∨ (check 2 f.steps ∧ f.rest ≠ [] ∧ n = f.steps.length))) ∧
    (∀ n k, 3 ≤ k → k ≤ 6 → (planCheck f = some (some n, k) ↔
      one ∧ f.rest = [] ∧ (∀ j, 2 ≤ j → j < k → check j f.steps) ∧ firstFails k n)) ∧
    (∀ i k, planCheck f = some (i, k) → 1 ≤ k ∧ k ≤ 6 ∧ (i = none ↔ k = 1))

/-- A job becomes ACTIVE (R88, R96, R108–R110, R112): into an empty list it is accepted ACTIVE with its announcement and its full
duration; behind an ACTIVE job it is QUEUED at the tail, but for a LOAD that suspends the ACTIVE erase of another slot; an idle
controller picks the oldest QUEUED LOAD while an erase is SUSPENDED, else the SUSPENDED erase, without a new announcement, else
the oldest QUEUED job. -/
def Obligations.AcceptanceAndSelection : Prop :=
  ∀ s : State,
    (∀ n id label, s.announce (.save n id label) = s.setSlot n { s.slot n with operation := .save }) ∧
    (∀ n, s.announce (.erase n) = s.setSlot n { s.slot n with operation := .erase }) ∧
    (∀ r, s.announce (.savePlan r) = s.setPlan { s.planArea with operation := .write }) ∧
    s.announce .clearPlan = s.setPlan { s.planArea with operation := .clear } ∧
    (∀ w, (∃ n id, w = .load n id) ∨ (∃ n l, w = .setLock n l) → s.announce w = s) ∧
    (∀ w origin k,
      let job : Job := { work := w, origin := origin, state := .queued, remaining := w.duration k, suspensions := 0 }
      (s.jobs = [] → s.accept w origin k = { s.announce w with jobs := [{ job with state := .active }] }) ∧
      ((∃ j ∈ s.jobs, j.state = .active) → s.accept w origin k = { s with jobs := s.jobs ++ [job] })) ∧
    (∀ n id origin k,
      let job : Job := { work := .load n id, origin := origin, state := .queued, remaining := Config.loadTime k, suspensions := 0 }
      (s.jobs = [] → s.acceptLoad n id origin k = { s with jobs := [{ job with state := .active }] }) ∧
      (∀ xs e ys m, s.jobs = xs ++ e :: ys → e.state = .active → (∀ x ∈ xs, x.state ≠ .active) → e.work = .erase m →
        n ≠ m → e.suspensions < 8 → (∀ j ∈ s.jobs, j.state ≠ .suspended) →
        s.acceptLoad n id origin k = { s with jobs :=
          xs ++ { e with state := .suspended, suspensions := e.suspensions + 1 } :: ys ++ [{ job with state := .active }] }) ∧
      ((∃ j ∈ s.jobs, j.state = .active) →
        (∀ j ∈ s.jobs, j.state = .active → (∀ m, j.work = .erase m → m = n ∨ 8 ≤ j.suspensions)) ∨
          (∃ j ∈ s.jobs, j.state = .suspended) →
        s.acceptLoad n id origin k = { s with jobs := s.jobs ++ [job] })) ∧
    ((∃ j ∈ s.jobs, j.state = .active) → s.select = s) ∧ (s.jobs = [] → s.select = s) ∧
    ((∀ j ∈ s.jobs, j.state ≠ .active) →
      (∀ xs j ys n id, (∃ e ∈ s.jobs, e.state = .suspended) → s.jobs = xs ++ j :: ys → j.state = .queued → j.work = .load n id →
        (∀ x ∈ xs, x.state = .queued → ∀ n id, x.work ≠ .load n id) →
        s.select = { s with jobs := xs ++ { j with state := .active } :: ys }) ∧
      (∀ xs j ys, s.jobs = xs ++ j :: ys → j.state = .suspended → (∀ x ∈ xs, x.state ≠ .suspended) →
        (∀ x ∈ s.jobs, x.state = .queued → ∀ n id, x.work ≠ .load n id) →
        s.select = { s with jobs := xs ++ { j with state := .active } :: ys }) ∧
      (∀ j ys, s.jobs = j :: ys → (∀ x ∈ s.jobs, x.state = .queued) →
        s.select = { s.announce j.work with jobs := { j with state := .active } :: ys }))

/-- The completions of SAVE, ERASE, SET_LOCK, SAVE_PLAN and CLEAR_PLAN (R88, R90, R95, R96, R104, R114, R115, R117–R119, R169, R171):
the store's change, the release, the job out of the list, the reply to its entry or none for an orphan, and the selection. Which of
two orphaned entries of one tag and code leaves (notes/assumptions/26.md) and the data of the SAVE_PLAN reply, the step count and
the run-on set (notes/assumptions/17.md), are the model's choices, and the bit order of the check value is presumed
(notes/assumptions/18.md). -/
def Obligations.JobCompletions : Prop :=
  (∀ (s : State) (tag code : Byte) (st : Status) (data : List Byte) (xs ys : List Pending) (e : Pending),
    s.table.entries = xs ++ e :: ys → e.tag = tag →
    (e.orphaned = false → (∀ x ∈ xs, x.tag = tag → x.orphaned = true) →
      s.handReply (.request tag false) code st data = { s with table :=
        { entries := xs ++ { e with state := .queued } :: ys, line := s.table.line ++ [.reply tag code st data] } }) ∧
    (e.orphaned = true → e.code = code → (∀ x ∈ xs, ¬(x.tag = tag ∧ x.code = code ∧ x.orphaned = true)) →
      s.handReply (.request tag true) code st data = { s with table := { s.table with entries := xs ++ ys } })) ∧
  (∀ (s : State) (xs ys : List Job) (j : Job), s.alive = true → s.jobs = xs ++ j :: ys → j.state = .active →
    (∀ x ∈ xs, x.state ≠ .active) →
    let u : State := { s with jobs := xs ++ ys }
    let done := fun (u : State) (code : Byte) (data : List Byte) =>
      Host.Outcome.next (State.arbitrate (State.select (u.handReply j.origin code .ok data)))
    (∀ n id label g, j.work = .save n id label → s.segment? id = some g →
      let x := s.slot n
      let samples := (List.range g.length).map (readSample s.pool.mem g.blocks)
      let check := checkValue g.length samples g.marks
      exec .saveCompletion s = done ((u.setSlot n { x with
          content := .stored, operation := .none, length := g.length, marks := g.marks, label := label, check := check
          saveCount := x.saveCount + 1, data := samples }).releaseRef id)
        0x60 (u8 n.val ++ u16 g.length ++ u32 check.toNat ++ u32 (x.saveCount + 1))) ∧
    (∀ n, j.work = .erase n →
      let x := s.slot n
      exec .eraseCompletion s = done (u.setSlot n { x with
          content := .blank, operation := .none, length := 0, marks := [], label := [], check := 0, data := [] })
        0x62 (u8 n.val ++ u32 x.saveCount ++ u8 j.suspensions)) ∧
    (∀ n l, j.work = .setLock n l →
      let x := s.slot n
      let effective := if x.freeze = true then 2 else l.num
      exec .setLockCompletion s = done (u.setSlot n { x with lock := l })
        0x63 (u8 n.val ++ u8 l.num ++ [if x.freeze = true then 0 else 1] ++ u8 effective)) ∧
    (∀ r, j.work = .savePlan r → exec .savePlanCompletion s =
      done (u.setPlan ⟨some r, .none⟩) 0x65 (u8 r.steps.length ++ [r.runOn])) ∧
    (j.work = .clearPlan → exec .clearPlanCompletion s = done (u.setPlan ⟨none, .none⟩) 0x66 []))

/-- BLOCK_TRANSFER and LOAD_COMPLETION (R7, R9, R90, R104, R111, R116, R133, R136): a transfer that is not the last moves one block and
raises the fill mark to 64 × k; the completion moves the rest and compares the check values: on a match READY with its report,
the reference released, OK; on a mismatch FAILED with the reference released, freed with SEGMENT_FREED when that was the last,
else retiring with the FAILED report, CHECK_FAILED. The job leaves the list; the outcome goes to the host's request as its reply,
or to the plan step, where the run goes on, fails, or, having ended, discards it (statement ScanAndPlanRun); then the selection.
Found changes of stored cells are the command's (notes/assumptions/15.md), a completion makes the transfers that remain
(notes/assumptions/16.md), a transfer with only the last one left changes nothing (notes/assumptions/6.md), and FREED 0, RETIRED 1 and
the refs byte after both are the model's layout (notes/assumptions/17.md). -/
def Obligations.LoadTransfersAndCompletes : Prop :=
  ∀ (s : State) (xs ys : List Job) (j : Job) (n : Fin 32) (id : Byte) (g : Segment) (cells : List (Nat × Sample)),
    s.alive = true → s.jobs = xs ++ j :: ys → j.state = .active → (∀ x ∈ xs, x.state ≠ .active) → j.work = .load n id →
    s.segment? id = some g →
    let x : Slot := { s.slot n with data := changeCells cells (s.slot n).data }
    let k := g.fill / 64
    let moved := fun (samples : List Sample) (fill : Nat) (out : List Job) =>
      State.modSegment { s.setSlot n x with
        jobs := out
        pool := { s.pool with mem := writeRun g.blocks (64 * k) samples s.pool.mem } } id (fun y => { y with fill := fill })
    let v := moved ((x.data.take g.length).drop (64 * k)) g.length (xs ++ ys)
    let computed := checkValue g.length ((List.range g.length).map (readSample v.pool.mem g.blocks)) g.marks
    let done := fun (u : State) (st : Status) (data : List Byte) =>
      Host.Outcome.next (State.arbitrate (State.select (match j.origin with
        | .request _ _ => u.handReply j.origin 0x61 st data
        | .plan => u.planOutcome st)))
    (k + 1 < g.blocks.length → exec (.blockTransfer cells) s =
      .next (State.arbitrate (moved ((x.data.drop (64 * k)).take 64) (64 * (k + 1)) s.jobs))) ∧
    (g.blocks.length ≤ k + 1 → exec (.blockTransfer cells) s = .next s.arbitrate) ∧
    (computed = x.check → exec (.loadCompletion cells) s = done
      (((v.modSegment id (fun y => { y with state := .ready })).reportReady id).releaseRef id) .ok
      (u8 n.val ++ [id] ++ u16 g.length ++ u32 x.check.toNat)) ∧
    (computed ≠ x.check → g.refs ≤ 1 → exec (.loadCompletion cells) s = done
      (v.freeSegment { g with state := .failed, refs := 0, fill := g.length } true) .checkFailed
      (u8 n.val ++ [id] ++ u32 x.check.toNat ++ u32 computed.toNat ++ [0, 0])) ∧
    (computed ≠ x.check → 1 < g.refs → exec (.loadCompletion cells) s = done
      ((v.modSegment id (fun y => { y with state := .failed, retiring := true, refs := y.refs - 1 })).reportFailed id)
      .checkFailed (u8 n.val ++ [id] ++ u32 x.check.toNat ++ u32 computed.toNat ++ 1 :: u8 (g.refs - 1)))

/-- CANCEL (R120, R121): NO_SUCH_JOB, NOT_CANCELLABLE for an ACTIVE SET_LOCK; else the job leaves the list, a SAVE's reference is
released, a LOAD's segment fails, the store keeps its announcements, the selection runs when the job was the ACTIVE one, and the
job's CANCELLED reply is placed before the CANCEL's own OK with the same data. -/
def Obligations.CancelRequest : Prop :=
  ∀ (tag named : Byte) (s : State), s.takes tag = true →
    let run := exec (.cancel tag (.fields named)) s
    ((∀ j ∈ s.jobs, j.origin ≠ .request named false) → run = .next (s.answered tag 0x67 .noSuchJob [])) ∧
    (∀ xs j ys, s.jobs = xs ++ j :: ys → j.origin = .request named false → (∀ x ∈ xs, x.origin ≠ .request named false) →
      (j.state = .active → (∃ n l, j.work = .setLock n l) → run = .next (s.answered tag 0x67 .notCancellable [])) ∧
      (¬(j.state = .active ∧ ∃ n l, j.work = .setLock n l) →
        (∃ e ∈ s.table.entries, e.tag = named ∧ e.orphaned = false) →
        let effect : State := match j.work with
          | .save _ id _ => s.releaseRef id
          | .load _ id => s.failLoading id
          | _ => s
        let out : State := { effect with jobs := xs ++ ys }
        let u := if j.state = .active then out.select else out
        let data := u8 j.work.num ++ u8 j.state.num ++ u8 (match j.work.slot? with
          | some n => reportedSlot n (u.slot n) u.jobs
          | none => reportedPlan u.planArea u.jobs)
        run = .next (State.answered { u with table := s.table.withDeferred named j.work.code .cancelled data } tag 0x67 .ok data)))

/-- FREEZE (R93): RANGE for a slot above 31; a slot already frozen is left as it is; SLOT_LOCKED on an OPEN slot; else the flag is set.
The reply carries the slot, the level, the flag and the effective level after the request, the flag by its position among set and
clear (R173). -/
def Obligations.FreezeRequest : Prop :=
  ∀ (tag slot : Byte) (s : State), s.takes tag = true →
    let run := exec (.freeze tag (.fields slot)) s
    (32 ≤ slot.toNat → run = .next (s.answered tag 0x64 .range [])) ∧
    (∀ n : Fin 32, slot.toNat = n.val →
      let x := s.slot n
      (x.freeze = true → run = .next (s.answered tag 0x64 .ok [slot, if x.lock = .locked then 1 else 0, 0, 2])) ∧
      (x.freeze = false → x.lock = .unlocked → run = .next (s.answered tag 0x64 .slotLocked [])) ∧
      (x.freeze = false → x.lock = .locked →
        run = .next (State.answered (s.setSlot n { x with freeze := true }) tag 0x64 .ok [slot, 1, 0, 2])))

/-- A slot whose effective lock level is LOCKED or FROZEN keeps its stored length, marks, label and samples, and its save count, through
every command (R92); its samples apart from changes of the cells themselves, which are operands of BLOCK_TRANSFER and of
LOAD_COMPLETION, also where that falls between the starts of a START (notes/assumptions/15.md, 12.md). A set freeze flag is cleared by POWER_ON alone, and set on a LOCKED slot alone (R93). -/
def Obligations.LockedSlotKeepsContent : Prop :=
  ∀ (c : Instr) (s t : State) (n : Fin 32), exec c s = .next t → s.jobsFit = true →
    ((s.slot n).freeze = true ∨ (s.slot n).lock = .locked →
      (t.slot n).content = (s.slot n).content ∧ (t.slot n).operation = (s.slot n).operation ∧
      (t.slot n).length = (s.slot n).length ∧ (t.slot n).marks = (s.slot n).marks ∧ (t.slot n).label = (s.slot n).label ∧
      (t.slot n).check = (s.slot n).check ∧ (t.slot n).saveCount = (s.slot n).saveCount ∧
      ((∀ cells, c ≠ .blockTransfer cells ∧ c ≠ .loadCompletion cells ∧
          ∀ tag run, c = .start tag run → .loadCompletion cells ∉ run.course) → (t.slot n).data = (s.slot n).data)) ∧
    ((s.slot n).freeze = true → (∀ v, c ≠ .powerOn v) → (t.slot n).freeze = true) ∧
    ((s.slot n).freeze = false → (t.slot n).freeze = true → (s.slot n).lock = .locked)

/-! ### Start-up (spec 07) -/

/-- SCAN_COMPLETION and the plan run (R104, R129, R131–R135, R137): the scan's counts and plan state; no plan to run ends STARTING with
NOT_RUN; else the steps run in order from step 0, each taken one with its owner's effect, an accepted LOAD waiting for its
job, a refused one or a LOAD that failed its check ending the run FAILED with the channels it started stopped, the last one
ending it COMPLETED; STARTED is produced at the end. Each step has the effect and the outcome that the request of the same name
has on a part that is READY. The outcome of a LOAD step's job, which its LOAD_COMPLETION hands over (statement
LoadTransfersAndCompletes), is `planOutcome`. A scan's end outside SCANNING changes nothing (notes/assumptions/6.md), and the
channels start and stop in rising number (notes/assumptions/12.md). -/
def Obligations.ScanAndPlanRun : Prop :=
  (∀ s : State, s.alive = true →
    let count := fun (st : Stored) => s.store.slots.toList.countP (fun x => x.stored = st)
    let found : Startup := { s.startup with
      blank := count .blank, stored := count .stored, torn := count .torn, planState := s.store.plan.stored }
    let u : State := { s with startup := found }
    (s.startup.phase ≠ .scanning → exec .scanCompletion s = .next s.arbitrate) ∧
    (s.startup.phase = .scanning →
      ((s.store.plan.operation ≠ .none ∨ s.store.plan.record = none ∨
          ∃ r, s.store.plan.record = some r ∧ r.runOn.getLsbD s.startup.cause.num = false) →
        exec .scanCompletion s = .next (u.endStarting .notRun).arbitrate) ∧
      (∀ r, s.store.plan.operation = .none → s.store.plan.record = some r → r.runOn.getLsbD s.startup.cause.num = true →
        exec .scanCompletion s =
          .next (State.runSteps r.steps 0 { s with startup := { found with phase := .plan } }).arbitrate))) ∧
  (∀ (s : State) (r : PlanResult),
    s.endStarting r = { s with
      startup := { s.startup with phase := .ready, step := none, result := some r }
      notices := s.notices.produce .started .part
        (u8 s.startup.cause.num ++ u8 s.startup.blank ++ u8 s.startup.stored ++ u8 s.startup.torn ++
          u8 s.startup.planState.num ++ (match r with
            | .notRun => [0, 255, 255]
            | .completed => [1, 255, 255]
            | .failed i st => 2 :: (u8 i ++ [st.code])
            | .aborted i => 3 :: (u8 i ++ [255])) ++ [s.startup.planStarted.setWidth 8]) }) ∧
  (∀ (s : State) (i : Nat) (ps : List PlanStep),
    let u : State := { s with startup := { s.startup with step := some i } }
    State.runSteps [] i s = s.endStarting .completed ∧
    (∀ f st, u.offerLoad f .plan = .error st → State.runSteps (.load f :: ps) i s = u.failPlan i st) ∧
    (∀ f t, u.offerLoad f .plan = .ok t → State.runSteps (.load f :: ps) i s = t) ∧
    (∀ p t data, (∀ f, p ≠ .load f) → (∀ m, p ≠ .start m) → ownStep p u = .reply t .ok data →
      State.runSteps (p :: ps) i s = State.runSteps ps (i + 1) t) ∧
    (∀ m t data, ownStart m u = .reply t .ok data → State.runSteps (.start m :: ps) i s =
      State.runSteps ps (i + 1) { t with startup := { t.startup with
        planStarted := t.startup.planStarted ||| m.setWidth 4 } }) ∧
    (∀ p t st data, (∀ f, p ≠ .load f) → ownStep p u = .reply t st data → st ≠ .ok →
      State.runSteps (p :: ps) i s = u.failPlan i st) ∧
    (∀ st, s.failPlan i st = ((allChannels.filter (fun c => s.startup.planStarted.getLsbD c.val)).foldl
      (fun t c => t.stopNow c) s).endStarting (.failed i st)) ∧
    (∀ (st : Status) (k : Nat) (r : PlanRecord), s.startup.step = some k → s.store.plan.record = some r →
      (s.startup.phase ≠ .plan → s.planOutcome st = s) ∧
      (s.startup.phase = .plan → s.planOutcome .ok = State.runSteps (r.steps.drop (k + 1)) (k + 1) s) ∧
      (s.startup.phase = .plan → st ≠ .ok → s.planOutcome st = s.failPlan k st))) ∧
  (∀ (s : State) (tag : Byte), s.takesExempt tag = true →
    let ready := fun (t : State) => ({ t with startup := { t.startup with phase := .ready } } : State)
    (∀ (p : PlanStep) (i : Instr) (code : Byte),
      ((∃ f, p = .config f ∧ i = .configureChannel tag (.fields f) ∧ code = 0x20) ∨
        (∃ f, p = .rate f ∧ i = .setRate tag (.fields f) ∧ code = 0x30) ∨
        (∃ f, p = .inputs f ∧ i = .setInputs tag (.fields f) ∧ code = 0x40) ∨
        (∃ f, p = .trigger f ∧ i = .defineTrigger tag (.fields f) ∧ code = 0x41) ∨
        (∃ f, p = .enqueue f ∧ i = .enqueue tag (.fields f) ∧ code = 0x21) ∨
        (∃ m, p = .run m ∧ i = .runRates tag (.fields m) ∧ code = 0x31) ∨
        (∃ m, p = .start m ∧ i = .start tag ⟨.fields m, []⟩ ∧ code = 0x22)) →
      ∃ t st data, ownStep p s = .reply t st data ∧ exec i (ready s) = .next ((ready t).answered tag code st data)) ∧
    (∀ f : LoadFields, (∀ j ∈ s.jobs, j.origin ≠ .request tag false) →
      (∀ st, s.offerLoad f .plan = .error st →
        exec (.load tag (.fields f)) (ready s) = .next ((ready s).answered tag 0x61 st [])) ∧
      (∀ t, s.offerLoad f .plan = .ok t → ∃ js : List Job,
        exec (.load tag (.fields f)) (ready s) = .next (State.awaited (ready { t with jobs := js }) tag 0x61) ∧
        t.jobs = js.map (fun j => if j.origin = .request tag false then { j with origin := .plan } else j))))

/-- RESET and ABORT_PLAN (R136, R139): RESET sets reset pending and answers OK; the reset waits for the end of that reply. ABORT_PLAN
is refused NOT_STARTING outside a plan run; in one it stops the channels the plan started, ends STARTING with ABORTED at the step,
leaves the LOAD's job in the list, and answers with the step and the channels. The stop in rising number is the model's order
(notes/assumptions/12.md). -/
def Obligations.ResetAndAbortPlan : Prop :=
  ∀ (tag : Byte) (s : State),
    (s.takes tag = true → exec (.reset tag (.fields ())) s =
      .next (State.answered { s with startup := { s.startup with resetPending := true } } tag 0x70 .ok [])) ∧
    (s.takesExempt tag = true → s.startup.phase ≠ .plan →
      exec (.abortPlan tag (.fields ())) s = .next (s.answered tag 0x71 .notStarting [])) ∧
    (∀ i, s.takesExempt tag = true → s.startup.phase = .plan → s.startup.step = some i →
      let u := (allChannels.filter (fun c => s.startup.planStarted.getLsbD c.val)).foldl (fun t c => t.stopNow c) s
      exec (.abortPlan tag (.fields ())) s = .next (State.answered (u.endStarting (.aborted i)) tag 0x71 .ok
        (u8 i ++ [s.startup.planStarted.setWidth 8])) ∧
      (u.endStarting (.aborted i)).jobs = s.jobs)

/-- SET_NOTICES (R191): RANGE for a window above 4 or an enable set with a bit above that of kind 09h; else the window and the enable
set take the values, STARTED and LOST added, the records stay, and the reply carries the queue's figures after that. -/
def Obligations.SetNotices : Prop :=
  ∀ (tag : Byte) (f : NoticesFields) (s : State), s.takes tag = true →
    let run := exec (.setNotices tag (.fields f)) s
    (4 < f.window.toNat ∨ 512 ≤ f.enable.toNat → run = .next (s.answered tag 0x78 .range [])) ∧
    (f.window.toNat ≤ 4 → f.enable.toNat < 512 →
      let enable : BitVec 9 := f.enable.setWidth 9 ||| 0x180
      run = .next (State.answered { s with notices := { s.notices with window := f.window.toNat, enable := enable } }
        tag 0x78 .ok (f.window :: (halfBytes (enable.setWidth 16) ++ u8 s.notices.records.length ++
          u8 (s.notices.records.countP (fun r => decide (r.state ≠ .new))) ++ [s.notices.nextSeq] ++
          halfBytes s.notices.tally ++ halfBytes s.notices.total))))

/-! ### Reports -/

/-- GET_PART (R177) has no checks of its own and is exempt from STARTING; it answers OK with the identity and capacities of the part
and changes no state. -/
def Obligations.GetPart : Prop :=
  ∀ (tag : Byte) (s : State), s.takesExempt tag = true →
    exec (.getPart tag (.fields ())) s = .next (s.answered tag 0x7D .ok
      ([0x14, 0x0D, 0x41, 4, 4, 8, 8] ++ u16 512 ++ [64, 96] ++ u16 8192 ++ [16, 16, 32] ++ u32 100000 ++ [24, 4, 8, 8, 4] ++
        [32, 4, 120]))

/-- GET_POOL, GET_RATES, GET_TRIGGER, GET_INPUTS and GET_LINK (R23, R67, R84, R85, R159): the refusals, the data of the OK replies, and
that no state changes but the link counters, which GET_LINK with clear YES sets to 0 after it has reported them. The ids of GET_POOL
stand under the map count before them, without another count, the captured levels of GET_TRIGGER in one byte with INn in bit n, and
the straps of GET_LINK in one byte with BAUD0 in bit 0 (notes/assumptions/17.md). -/
def Obligations.ShortReports : Prop :=
  ∀ (tag : Byte) (s : State), s.takesExempt tag = true →
    exec (.getPool tag (.fields ())) s = .next (s.answered tag 0x15 .ok
      (u16 s.pool.free.length ++ (match s.pool.free with
        | [] => [255, 255]
        | b :: _ => u16 b) ++ u8 s.pool.map.length ++ u16 (min (s.pool.free.length * 64) 8192) ++
        s.pool.map.map (fun g => g.id))) ∧
    (∃ play pulse : Fin 4 → Byte,
      (∀ g, (play g).toNat < 16 ∧ (pulse g).toNat < 16 ∧ ∀ c : Fin 4,
        ((play g).getLsbD c.val = true ↔ (s.channel c).activeGen = g ∧ (s.channel c).state ≠ .stopped) ∧
        ((pulse g).getLsbD c.val = true ↔ (s.channel c).m0.pulse = some g ∨ (s.channel c).m1.pulse = some g)) ∧
      exec (.getRates tag (.fields ())) s = .next (s.answered tag 0x33 .ok ([0, 1, 2, 3].flatMap (fun g =>
        u32 (s.generator g).divider ++ yesNo (s.generator g).running ++ u32 (s.generator g).ticks.toNat ++
          [play g, pulse g])))) ∧
    (∀ trigger : Byte,
      (7 < trigger.toNat → exec (.getTrigger tag (.fields trigger)) s = .next (s.answered tag 0x43 .range [])) ∧
      (∀ k : Fin 8, trigger.toNat = k.val →
        let x := s.trigger k
        ∃ waiting until_ : Byte, waiting.toNat < 16 ∧ until_.toNat < 16 ∧
          (∀ c : Fin 4, (waiting.getLsbD c.val = true ↔ (s.channel c).waitsOn = some k) ∧
            (until_.getLsbD c.val = true ↔ (s.channel c).untilOf = some k)) ∧
          exec (.getTrigger tag (.fields trigger)) s = .next (s.answered tag 0x43 .ok
            (u8 x.mode.num ++ [x.mask, x.pattern] ++ u8 x.edge.num ++ u8 x.prescale ++ yesNo x.notify ++ u8 x.count ++
              yesNo x.matched ++ u32 x.fires.toNat ++ [x.captured, waiting, until_])))) ∧
    exec (.getInputs tag (.fields ())) s = .next (s.answered tag 0x44 .ok
      (u16 s.trig.divider ++ u8 s.trig.confirm ++ yesNo s.trig.sampled ++
        (List.finRange 8).flatMap (fun n =>
          yesNo (s.trig.raw.getLsbD n.val) ++ yesNo (s.trig.confirmed.getLsbD n.val) ++ u8 s.trig.runs[n]) ++
        (List.finRange 8).flatMap (fun k => u8 (s.trigger k).mode.num))) ∧
    (∀ clear : Byte,
      (1 < clear.toNat → exec (.getLink tag (.fields clear)) s = .next (s.answered tag 0x7C .range [])) ∧
      (clear.toNat ≤ 1 →
        let k := s.link.counters
        exec (.getLink tag (.fields clear)) s = .next (State.arbitrate { s with
          link := { s.link with
            receiver := .hunt, gap := .stopped
            counters := if clear = 1 then ⟨0, 0, 0, 0, 0, 0, 0, 0, 0, 0, 0, 0⟩
              else { k with goodFrames := satInc k.goodFrames } }
          table :=
            { entries := s.table.entries ++ [⟨tag, 0x7C, .queued, false⟩]
              line := s.table.line ++ [.reply tag 0x7C .ok
                (u32 (Config.baud s.link.straps) ++ [s.link.straps.setWidth 8, 0, if s.link.tx = .free then 0 else 1] ++
                  [satInc k.goodFrames, k.huntBytes, k.lengthErrors, k.checkErrors, k.gapErrors, k.kindErrors, k.stopBitErrors,
                    k.breaks, k.refusalsDropped, k.unknownAcks, k.replyFrames, k.noticeFrames].flatMap halfBytes)] } })))

/-- GET_SEGMENT, GET_CHANNEL, GET_SLOT, GET_STORE and GET_PLAN (R22, R54, R89, R100–R102, R176): the refusals, the data in the model's
layouts (notes/assumptions/17.md), and that no state changes. A slot is reported WRITING or ERASING while the job that makes it so
is there, else in its stored state, and only a STORED one with its length, marks, label and check value. A slot record of GET_STORE carries no saves remaining (R101, R176; the model's choice
beside R95, notes/assumptions/38.md). A GET_STORE reply fits in the 246 bytes of data and carries at
least ten slot records where as many are left, and none it could not carry whole. -/
def Obligations.LongReports : Prop :=
  ∀ (tag : Byte) (s : State), s.takesExempt tag = true →
    let reported := fun (n : Fin 32) =>
      match (s.jobs.find? (fun j => decide (j.work.slot? = some n))).map (fun j => (j.work, j.state)) with
      | some (.save _ _ _, .active) => 3
      | some (.erase _, .active) => 4
      | some (.erase _, .suspended) => 4
      | _ => if (s.slot n).operation ≠ .none then 2 else if (s.slot n).content = .stored then 1 else 0
    let effective := fun (n : Fin 32) => if (s.slot n).freeze = true then 2 else if (s.slot n).lock = .locked then 1 else 0
    let reportedPlan := match (s.jobs.find? (fun j => j.work.isPlan)).map (fun j => (j.work, j.state)) with
      | some (.savePlan _, .active) => 3
      | some (.clearPlan, .active) => 4
      | _ => if s.planArea.operation ≠ .none then 2 else if s.planArea.record.isSome = true then 1 else 0
    (∀ f : GetSegmentFields,
      let run := exec (.getSegment tag (.fields f)) s
      (f.id = 0 ∨ f.id = 255 ∨ 127 < f.index.toNat → run = .next (s.answered tag 0x14 .range [])) ∧
      (f.id ≠ 0 → f.id ≠ 255 → f.index.toNat ≤ 127 →
        (s.segment? f.id = none → run = .next (s.answered tag 0x14 .noSuchSegment [])) ∧
        (∀ g, s.segment? f.id = some g →
          (g.blocks.length ≤ f.index.toNat → run = .next (s.answered tag 0x14 .range [])) ∧
          (f.index.toNat < g.blocks.length →
            let shown := (g.blocks.drop f.index.toNat).take 32
            run = .next (s.answered tag 0x14 .ok
              ([f.id] ++ u8 g.state.num ++ yesNo g.retiring ++ u16 g.length ++ u16 g.fill ++ u8 g.blocks.length ++
                u8 g.refs ++ u8 g.origin.num ++ u8 g.marks.length ++ g.marks.flatMap Mark.bytes ++ u8 shown.length ++
                shown.flatMap u16)))))) ∧
    (∀ channel : Byte,
      (3 < channel.toNat → exec (.getChannel tag (.fields channel)) s = .next (s.answered tag 0x26 .range [])) ∧
      (∀ c : Fin 4, channel.toNat = c.val →
        let x := s.channel c
        exec (.getChannel tag (.fields channel)) s = .next (s.answered tag 0x26 .ok
          (u8 x.defaultGen.val ++ halfBytes x.restCode ++ u8 x.state.num ++ u8 x.activeGen.val ++
            optByte (x.waitsOn.map (·.val)) ++ u8 x.queue.length ++
            x.queue.flatMap (fun e => e.segment :: yesNo e.started) ++
            (match x.queue with
              | [] => []
              | e :: _ => [e.segment] ++ u16 e.repeats ++ u8 e.start.num ++ optByte (e.untilTrig.map (·.val)) ++
                u8 e.endAction.num ++ optByte (e.generator.map (·.val)) ++ yesNo e.notify ++ u16 e.passes ++ u16 e.cursor ++
                yesNo e.released ++ yesNo e.stopPending) ++
            halfBytes x.output ++ yesNo x.m0.level ++ yesNo x.m1.level ++ optByte (x.m0.pulse.map (·.val)) ++
            optByte (x.m1.pulse.map (·.val)) ++ u32 x.counter.toNat)))) ∧
    (∀ slot : Byte,
      (31 < slot.toNat → exec (.getSlot tag (.fields slot)) s = .next (s.answered tag 0x68 .range [])) ∧
      (∀ n : Fin 32, slot.toNat = n.val →
        let x := s.slot n
        let job := s.jobs.find? (fun j => decide (j.work.slot? = some n))
        exec (.getSlot tag (.fields slot)) s = .next (s.answered tag 0x68 .ok
          ([slot] ++ u8 (reported n) ++
            (if reported n = 1 then u16 x.length ++ u8 x.marks.length ++ x.marks.flatMap Mark.bytes ++
              u8 x.label.length ++ x.label ++ u32 x.check.toNat else [0, 0, 0, 0, 0, 0, 0, 0]) ++
            [if x.lock = .locked then 1 else 0, if x.freeze = true then 0 else 1, effective n] ++ u32 x.saveCount ++
            u32 (100000 - x.saveCount) ++
            (match job with
              | none => [255, 255, 255, 255]
              | some j => u8 j.work.num ++ u8 j.state.num ++ (match j.origin with
                | .request tag _ => [1, tag]
                | .plan => [0, 0])) ++
            (match job.map (fun j => (j.work, j.suspensions, j.remaining)) with
              | some (.erase _, suspensions, remaining) =>
                u8 suspensions ++ [if remaining = 1440000 then 0 else 1]
              | _ => []))))) ∧
    (∀ first : Option Byte,
      (31 < (first.getD 0).toNat → exec (.getStore tag (.fields first)) s = .next (s.answered tag 0x69 .range [])) ∧
      (∀ n : Fin 32, (first.getD 0).toNat = n.val →
        let wide := [0, 1, 2, 3, 4].flatMap (fun r => u8 ((List.finRange 32).countP (fun m => decide (reported m = r)))) ++
          u8 reportedPlan ++ u8 s.jobs.length ++ s.jobs.flatMap (fun j =>
            u8 (j.work.num + 8 * j.state.num + (match j.origin with
              | .request _ _ => 64
              | .plan => 0)) ++ (match j.work.slot? with
              | some m => u8 m.val
              | none => [255]) ++ [j.origin.tag])
        let record := fun (m : Fin 32) =>
          let x := s.slot m
          u8 (reported m) ++ [effective m] ++ (if reported m = 1 then u16 x.length else [0, 0]) ++ u32 x.saveCount ++
            (if reported m = 1 then u8 x.label.length ++ x.label else [0])
        ∃ k,
          let data := wide ++ u8 n.val ++ u8 k ++ (((List.finRange 32).drop n.val).take k).flatMap record
          exec (.getStore tag (.fields first)) s = .next (s.answered tag 0x69 .ok data) ∧
          k ≤ 32 - n.val ∧
          (s.jobs.length ≤ 4 → (∀ m, (s.slot m).label.length ≤ 12) →
            data.length ≤ 246 ∧ min 10 (32 - n.val) ≤ k ∧ k ≤ min 26 (32 - n.val) ∧
            (∀ m : Fin 32, m.val = n.val + k → 246 < data.length + (record m).length)))) ∧
    exec (.getPlan tag (.fields ())) s = .next (s.answered tag 0x6A .ok
      (u8 reportedPlan ++ (match s.jobs.find? (fun j => j.work.isPlan) with
        | some j => u8 j.work.num ++ u8 j.state.num ++ [j.origin.tag]
        | none => [255, 255, 255]) ++
        (match s.planArea.record with
        | some r => if reportedPlan = 1 then r.runOn :: (u8 r.steps.length ++ stepsBytes r.steps) else []
        | none => [])))

/-! ### What every state keeps -/

/-- The state of the model's reset is sound: memory in its canonical form and empty, every block on the free list, channels, queues,
jobs, table and notices as their tables allow, every volatile field at its reset value, every slot and the plan area as shipped (R87),
both straps at 0. The model's choices: that it is a part as shipped with both straps at 0 (notes/assumptions/1.md), the empty pool
memory (notes/assumptions/3.md) and the empty queue, a field of its own (notes/assumptions/30.md). -/
def Obligations.ResetIsSound : Prop :=
  State.reset.sound ∧ State.reset.atReset ∧ State.reset.pool.mem = [] ∧ (∀ n, State.reset.slot n = Slot.shipped) ∧
    State.reset.planArea.record = none ∧ State.reset.planArea.operation = .none ∧ State.reset.link.straps = 0 ∧
    State.reset.pending = []

/-- The pool stays whole (R1, R2, R4, R23): every step keeps the sample memory in its canonical form, every block on the free list or
in one segment exactly once, and the records in rising order of their ids. -/
def Obligations.PoolStaysWhole : Prop :=
  ∀ s t : State, step s = .next t →
    (Memory.wf s.pool.mem = true → Memory.wf t.pool.mem = true) ∧
    (s.pool.partitioned → t.pool.partitioned) ∧
    (s.pool.map.Pairwise (fun g h => g.id.toNat < h.id.toNat) → t.pool.map.Pairwise (fun g h => g.id.toNat < h.id.toNat))

/-- The channels stay as the table of their states says (R27–R29): at every step a STOPPED channel shows its rest code with both lines
low and no started entry, only a PLAYING or STARVED one has a started head, a WAITING one an unstarted ON_TRIGGER head, a DRAINED
one an empty queue, and the active generator is that of the head or the default one. -/
def Obligations.ChannelsStayFormed : Prop :=
  ∀ s t : State, step s = .next t → s.channelsFormed = true → t.channelsFormed = true

/-- The Notice Queue stays arranged (R178, R187, R191): at every step SENT records, then SENT-RESEND records, then NEW records; numbers
consecutive and before the next one; at most 4 numbered; one NEW record for a kind and source; the timer running exactly while
a SENT record is there; STARTED and LOST enabled. -/
def Obligations.NoticeQueueStaysArranged : Prop :=
  ∀ s t : State, step s = .next t → s.notices.arranged = true → t.notices.arranged = true

/-- Every step from a sound state leaves a sound state: beside the three statements before, every reference count equals the entries
and jobs that name the segment (R12), the capacities hold (R4, R27, R103, R160, R166, R178), no two jobs name one slot and at most
one is ACTIVE and one SUSPENDED (R103), tags are distinct (R160), records and headers stay in their ranges, and nothing waits
for a free transmitter (R154). -/
def Obligations.SoundStatesStaySound : Prop :=
  ∀ s t : State, step s = .next t → s.sound → t.sound
end Statements
end

