-- ==== Sys2Proof/Laws/Frames.lean ====
section
/-!
SUPPORT. The frame check one bit at a time (R143).
-/

namespace Sys2Proof

/-- The bits of a byte, the most significant first. -/
def msbFirst (b : Byte) : List Bool := [7, 6, 5, 4, 3, 2, 1, 0].map (fun i => b.getLsbD i)

/-- The remainder after one more bit. -/
def crc16Step (c : Half) (b : Bool) : Half := (c <<< 1) ^^^ (if c.msb != b then 0x1021#16 else 0)

theorem crc16Bit_split (c d : Half) (b : Bool) (h : d.msb = b) : crc16Bit (c ^^^ d) = crc16Step c b ^^^ (d <<< 1) := by
  subst h
  cases hc : c.msb <;> cases hd : d.msb <;>
    simp [crc16Bit, crc16Step, BitVec.msb_xor, hc, hd, BitVec.shiftLeft_xor_distrib] <;> ac_rfl

/-- The frame check of one byte is that of its bits, the most significant first. -/
theorem crc16Byte_bits (c : Half) (b : Byte) : crc16Byte c b = (msbFirst b).foldl crc16Step c := by
  generalize hD : (b.setWidth 16 <<< 8 : Half) = D
  have e (i : Nat) (hi : i < 8) (x : Half) :
      crc16Bit (x ^^^ D <<< i) = crc16Step x (b.getLsbD (7 - i)) ^^^ D <<< (i + 1) := by
    rw [BitVec.shiftLeft_add D i 1]
    refine crc16Bit_split x _ _ ?_
    rw [BitVec.msb_eq_getLsbD_last, ← hD]
    simp only [BitVec.getLsbD_shiftLeft, BitVec.getLsbD_setWidth]
    interval_cases i <;> simp
  have z : D <<< (7 + 1) = 0#16 := by
    rw [← hD, ← BitVec.shiftLeft_add]
    exact BitVec.shiftLeft_eq_zero (by decide)
  have h0 := e 0 (by decide) c
  rw [BitVec.shiftLeft_zero] at h0
  rw [crc16Byte, hD, h0, e 1 (by decide), e 2 (by decide), e 3 (by decide), e 4 (by decide), e 5 (by decide), e 6 (by decide),
    e 7 (by decide), z, BitVec.xor_zero]
  rfl

/-- The CRC-16 of bytes is the remainder of their bits in the order of transmission. -/
theorem crc16_bits (bs : List Byte) : crc16 bs = (bs.flatMap msbFirst).foldl crc16Step 0xFFFF#16 := by
  unfold crc16
  generalize 0xFFFF#16 = c
  induction bs generalizing c with
  | nil => rfl
  | cons b bs ih => rw [List.foldl_cons, List.flatMap_cons, List.foldl_append, ← crc16Byte_bits, ih]

end Sys2Proof
end

