-- ==== Sys2Proof/Laws/State.lean ====
section
/-!
SUPPORT. What each update of the state leaves: one lemma per field per update, true by `rfl`.
-/

namespace Sys2Proof.Machine

variable (s : State)

/-! ### setChannel -/

@[simp] theorem State.setChannel_powered (c : Fin 4) (x : Channel) : (s.setChannel c x).powered = s.powered := rfl
@[simp] theorem State.setChannel_resetnLow (c : Fin 4) (x : Channel) : (s.setChannel c x).resetnLow = s.resetnLow := rfl
@[simp] theorem State.setChannel_pool (c : Fin 4) (x : Channel) : (s.setChannel c x).pool = s.pool := rfl
@[simp] theorem State.setChannel_generators (c : Fin 4) (x : Channel) : (s.setChannel c x).generators = s.generators := rfl
@[simp] theorem State.setChannel_deliveries (c : Fin 4) (x : Channel) : (s.setChannel c x).deliveries = s.deliveries := rfl
@[simp] theorem State.setChannel_trig (c : Fin 4) (x : Channel) : (s.setChannel c x).trig = s.trig := rfl
@[simp] theorem State.setChannel_store (c : Fin 4) (x : Channel) : (s.setChannel c x).store = s.store := rfl
@[simp] theorem State.setChannel_jobs (c : Fin 4) (x : Channel) : (s.setChannel c x).jobs = s.jobs := rfl
@[simp] theorem State.setChannel_startup (c : Fin 4) (x : Channel) : (s.setChannel c x).startup = s.startup := rfl
@[simp] theorem State.setChannel_link (c : Fin 4) (x : Channel) : (s.setChannel c x).link = s.link := rfl
@[simp] theorem State.setChannel_table (c : Fin 4) (x : Channel) : (s.setChannel c x).table = s.table := rfl
@[simp] theorem State.setChannel_notices (c : Fin 4) (x : Channel) : (s.setChannel c x).notices = s.notices := rfl
@[simp] theorem State.setChannel_pending (c : Fin 4) (x : Channel) : (s.setChannel c x).pending = s.pending := rfl

/-! ### modChannel -/

@[simp] theorem State.modChannel_powered (c : Fin 4) (f : Channel → Channel) : (s.modChannel c f).powered = s.powered := rfl
@[simp] theorem State.modChannel_resetnLow (c : Fin 4) (f : Channel → Channel) : (s.modChannel c f).resetnLow = s.resetnLow := rfl
@[simp] theorem State.modChannel_pool (c : Fin 4) (f : Channel → Channel) : (s.modChannel c f).pool = s.pool := rfl
@[simp] theorem State.modChannel_generators (c : Fin 4) (f : Channel → Channel) : (s.modChannel c f).generators = s.generators := rfl
@[simp] theorem State.modChannel_deliveries (c : Fin 4) (f : Channel → Channel) : (s.modChannel c f).deliveries = s.deliveries := rfl
@[simp] theorem State.modChannel_trig (c : Fin 4) (f : Channel → Channel) : (s.modChannel c f).trig = s.trig := rfl
@[simp] theorem State.modChannel_store (c : Fin 4) (f : Channel → Channel) : (s.modChannel c f).store = s.store := rfl
@[simp] theorem State.modChannel_jobs (c : Fin 4) (f : Channel → Channel) : (s.modChannel c f).jobs = s.jobs := rfl
@[simp] theorem State.modChannel_startup (c : Fin 4) (f : Channel → Channel) : (s.modChannel c f).startup = s.startup := rfl
@[simp] theorem State.modChannel_link (c : Fin 4) (f : Channel → Channel) : (s.modChannel c f).link = s.link := rfl
@[simp] theorem State.modChannel_table (c : Fin 4) (f : Channel → Channel) : (s.modChannel c f).table = s.table := rfl
@[simp] theorem State.modChannel_notices (c : Fin 4) (f : Channel → Channel) : (s.modChannel c f).notices = s.notices := rfl
@[simp] theorem State.modChannel_pending (c : Fin 4) (f : Channel → Channel) : (s.modChannel c f).pending = s.pending := rfl

/-! ### setGenerator -/

@[simp] theorem State.setGenerator_powered (g : Fin 4) (x : Generator) : (s.setGenerator g x).powered = s.powered := rfl
@[simp] theorem State.setGenerator_resetnLow (g : Fin 4) (x : Generator) : (s.setGenerator g x).resetnLow = s.resetnLow := rfl
@[simp] theorem State.setGenerator_pool (g : Fin 4) (x : Generator) : (s.setGenerator g x).pool = s.pool := rfl
@[simp] theorem State.setGenerator_channels (g : Fin 4) (x : Generator) : (s.setGenerator g x).channels = s.channels := rfl
@[simp] theorem State.setGenerator_deliveries (g : Fin 4) (x : Generator) : (s.setGenerator g x).deliveries = s.deliveries := rfl
@[simp] theorem State.setGenerator_trig (g : Fin 4) (x : Generator) : (s.setGenerator g x).trig = s.trig := rfl
@[simp] theorem State.setGenerator_store (g : Fin 4) (x : Generator) : (s.setGenerator g x).store = s.store := rfl
@[simp] theorem State.setGenerator_jobs (g : Fin 4) (x : Generator) : (s.setGenerator g x).jobs = s.jobs := rfl
@[simp] theorem State.setGenerator_startup (g : Fin 4) (x : Generator) : (s.setGenerator g x).startup = s.startup := rfl
@[simp] theorem State.setGenerator_link (g : Fin 4) (x : Generator) : (s.setGenerator g x).link = s.link := rfl
@[simp] theorem State.setGenerator_table (g : Fin 4) (x : Generator) : (s.setGenerator g x).table = s.table := rfl
@[simp] theorem State.setGenerator_notices (g : Fin 4) (x : Generator) : (s.setGenerator g x).notices = s.notices := rfl
@[simp] theorem State.setGenerator_pending (g : Fin 4) (x : Generator) : (s.setGenerator g x).pending = s.pending := rfl

/-! ### modGenerator -/

@[simp] theorem State.modGenerator_powered (g : Fin 4) (f : Generator → Generator) : (s.modGenerator g f).powered = s.powered := rfl
@[simp] theorem State.modGenerator_resetnLow (g : Fin 4) (f : Generator → Generator) : (s.modGenerator g f).resetnLow = s.resetnLow := rfl
@[simp] theorem State.modGenerator_pool (g : Fin 4) (f : Generator → Generator) : (s.modGenerator g f).pool = s.pool := rfl
@[simp] theorem State.modGenerator_channels (g : Fin 4) (f : Generator → Generator) : (s.modGenerator g f).channels = s.channels := rfl
@[simp] theorem State.modGenerator_deliveries (g : Fin 4) (f : Generator → Generator) : (s.modGenerator g f).deliveries = s.deliveries := rfl
@[simp] theorem State.modGenerator_trig (g : Fin 4) (f : Generator → Generator) : (s.modGenerator g f).trig = s.trig := rfl
@[simp] theorem State.modGenerator_store (g : Fin 4) (f : Generator → Generator) : (s.modGenerator g f).store = s.store := rfl
@[simp] theorem State.modGenerator_jobs (g : Fin 4) (f : Generator → Generator) : (s.modGenerator g f).jobs = s.jobs := rfl
@[simp] theorem State.modGenerator_startup (g : Fin 4) (f : Generator → Generator) : (s.modGenerator g f).startup = s.startup := rfl
@[simp] theorem State.modGenerator_link (g : Fin 4) (f : Generator → Generator) : (s.modGenerator g f).link = s.link := rfl
@[simp] theorem State.modGenerator_table (g : Fin 4) (f : Generator → Generator) : (s.modGenerator g f).table = s.table := rfl
@[simp] theorem State.modGenerator_notices (g : Fin 4) (f : Generator → Generator) : (s.modGenerator g f).notices = s.notices := rfl
@[simp] theorem State.modGenerator_pending (g : Fin 4) (f : Generator → Generator) : (s.modGenerator g f).pending = s.pending := rfl

/-! ### setTrigger -/

@[simp] theorem State.setTrigger_powered (t : Fin 8) (x : Trigger) : (s.setTrigger t x).powered = s.powered := rfl
@[simp] theorem State.setTrigger_resetnLow (t : Fin 8) (x : Trigger) : (s.setTrigger t x).resetnLow = s.resetnLow := rfl
@[simp] theorem State.setTrigger_pool (t : Fin 8) (x : Trigger) : (s.setTrigger t x).pool = s.pool := rfl
@[simp] theorem State.setTrigger_channels (t : Fin 8) (x : Trigger) : (s.setTrigger t x).channels = s.channels := rfl
@[simp] theorem State.setTrigger_generators (t : Fin 8) (x : Trigger) : (s.setTrigger t x).generators = s.generators := rfl
@[simp] theorem State.setTrigger_deliveries (t : Fin 8) (x : Trigger) : (s.setTrigger t x).deliveries = s.deliveries := rfl
@[simp] theorem State.setTrigger_store (t : Fin 8) (x : Trigger) : (s.setTrigger t x).store = s.store := rfl
@[simp] theorem State.setTrigger_jobs (t : Fin 8) (x : Trigger) : (s.setTrigger t x).jobs = s.jobs := rfl
@[simp] theorem State.setTrigger_startup (t : Fin 8) (x : Trigger) : (s.setTrigger t x).startup = s.startup := rfl
@[simp] theorem State.setTrigger_link (t : Fin 8) (x : Trigger) : (s.setTrigger t x).link = s.link := rfl
@[simp] theorem State.setTrigger_table (t : Fin 8) (x : Trigger) : (s.setTrigger t x).table = s.table := rfl
@[simp] theorem State.setTrigger_notices (t : Fin 8) (x : Trigger) : (s.setTrigger t x).notices = s.notices := rfl
@[simp] theorem State.setTrigger_pending (t : Fin 8) (x : Trigger) : (s.setTrigger t x).pending = s.pending := rfl

/-! ### setSlot -/

@[simp] theorem State.setSlot_powered (n : Fin 32) (x : Slot) : (s.setSlot n x).powered = s.powered := rfl
@[simp] theorem State.setSlot_resetnLow (n : Fin 32) (x : Slot) : (s.setSlot n x).resetnLow = s.resetnLow := rfl
@[simp] theorem State.setSlot_pool (n : Fin 32) (x : Slot) : (s.setSlot n x).pool = s.pool := rfl
@[simp] theorem State.setSlot_channels (n : Fin 32) (x : Slot) : (s.setSlot n x).channels = s.channels := rfl
@[simp] theorem State.setSlot_generators (n : Fin 32) (x : Slot) : (s.setSlot n x).generators = s.generators := rfl
@[simp] theorem State.setSlot_deliveries (n : Fin 32) (x : Slot) : (s.setSlot n x).deliveries = s.deliveries := rfl
@[simp] theorem State.setSlot_trig (n : Fin 32) (x : Slot) : (s.setSlot n x).trig = s.trig := rfl
@[simp] theorem State.setSlot_jobs (n : Fin 32) (x : Slot) : (s.setSlot n x).jobs = s.jobs := rfl
@[simp] theorem State.setSlot_startup (n : Fin 32) (x : Slot) : (s.setSlot n x).startup = s.startup := rfl
@[simp] theorem State.setSlot_link (n : Fin 32) (x : Slot) : (s.setSlot n x).link = s.link := rfl
@[simp] theorem State.setSlot_table (n : Fin 32) (x : Slot) : (s.setSlot n x).table = s.table := rfl
@[simp] theorem State.setSlot_notices (n : Fin 32) (x : Slot) : (s.setSlot n x).notices = s.notices := rfl
@[simp] theorem State.setSlot_pending (n : Fin 32) (x : Slot) : (s.setSlot n x).pending = s.pending := rfl

/-! ### setPlan -/

@[simp] theorem State.setPlan_powered (p : PlanArea) : (s.setPlan p).powered = s.powered := rfl
@[simp] theorem State.setPlan_resetnLow (p : PlanArea) : (s.setPlan p).resetnLow = s.resetnLow := rfl
@[simp] theorem State.setPlan_pool (p : PlanArea) : (s.setPlan p).pool = s.pool := rfl
@[simp] theorem State.setPlan_channels (p : PlanArea) : (s.setPlan p).channels = s.channels := rfl
@[simp] theorem State.setPlan_generators (p : PlanArea) : (s.setPlan p).generators = s.generators := rfl
@[simp] theorem State.setPlan_deliveries (p : PlanArea) : (s.setPlan p).deliveries = s.deliveries := rfl
@[simp] theorem State.setPlan_trig (p : PlanArea) : (s.setPlan p).trig = s.trig := rfl
@[simp] theorem State.setPlan_jobs (p : PlanArea) : (s.setPlan p).jobs = s.jobs := rfl
@[simp] theorem State.setPlan_startup (p : PlanArea) : (s.setPlan p).startup = s.startup := rfl
@[simp] theorem State.setPlan_link (p : PlanArea) : (s.setPlan p).link = s.link := rfl
@[simp] theorem State.setPlan_table (p : PlanArea) : (s.setPlan p).table = s.table := rfl
@[simp] theorem State.setPlan_notices (p : PlanArea) : (s.setPlan p).notices = s.notices := rfl
@[simp] theorem State.setPlan_pending (p : PlanArea) : (s.setPlan p).pending = s.pending := rfl

/-! ### count -/

@[simp] theorem State.count_powered (f : Counters → Counters) : (s.count f).powered = s.powered := rfl
@[simp] theorem State.count_resetnLow (f : Counters → Counters) : (s.count f).resetnLow = s.resetnLow := rfl
@[simp] theorem State.count_pool (f : Counters → Counters) : (s.count f).pool = s.pool := rfl
@[simp] theorem State.count_channels (f : Counters → Counters) : (s.count f).channels = s.channels := rfl
@[simp] theorem State.count_generators (f : Counters → Counters) : (s.count f).generators = s.generators := rfl
@[simp] theorem State.count_deliveries (f : Counters → Counters) : (s.count f).deliveries = s.deliveries := rfl
@[simp] theorem State.count_trig (f : Counters → Counters) : (s.count f).trig = s.trig := rfl
@[simp] theorem State.count_store (f : Counters → Counters) : (s.count f).store = s.store := rfl
@[simp] theorem State.count_jobs (f : Counters → Counters) : (s.count f).jobs = s.jobs := rfl
@[simp] theorem State.count_startup (f : Counters → Counters) : (s.count f).startup = s.startup := rfl
@[simp] theorem State.count_table (f : Counters → Counters) : (s.count f).table = s.table := rfl
@[simp] theorem State.count_notices (f : Counters → Counters) : (s.count f).notices = s.notices := rfl
@[simp] theorem State.count_pending (f : Counters → Counters) : (s.count f).pending = s.pending := rfl

/-! ### setReceiver -/

@[simp] theorem State.setReceiver_powered (r : Receiver) (g : Timer) : (s.setReceiver r g).powered = s.powered := rfl
@[simp] theorem State.setReceiver_resetnLow (r : Receiver) (g : Timer) : (s.setReceiver r g).resetnLow = s.resetnLow := rfl
@[simp] theorem State.setReceiver_pool (r : Receiver) (g : Timer) : (s.setReceiver r g).pool = s.pool := rfl
@[simp] theorem State.setReceiver_channels (r : Receiver) (g : Timer) : (s.setReceiver r g).channels = s.channels := rfl
@[simp] theorem State.setReceiver_generators (r : Receiver) (g : Timer) : (s.setReceiver r g).generators = s.generators := rfl
@[simp] theorem State.setReceiver_deliveries (r : Receiver) (g : Timer) : (s.setReceiver r g).deliveries = s.deliveries := rfl
@[simp] theorem State.setReceiver_trig (r : Receiver) (g : Timer) : (s.setReceiver r g).trig = s.trig := rfl
@[simp] theorem State.setReceiver_store (r : Receiver) (g : Timer) : (s.setReceiver r g).store = s.store := rfl
@[simp] theorem State.setReceiver_jobs (r : Receiver) (g : Timer) : (s.setReceiver r g).jobs = s.jobs := rfl
@[simp] theorem State.setReceiver_startup (r : Receiver) (g : Timer) : (s.setReceiver r g).startup = s.startup := rfl
@[simp] theorem State.setReceiver_table (r : Receiver) (g : Timer) : (s.setReceiver r g).table = s.table := rfl
@[simp] theorem State.setReceiver_notices (r : Receiver) (g : Timer) : (s.setReceiver r g).notices = s.notices := rfl
@[simp] theorem State.setReceiver_pending (r : Receiver) (g : Timer) : (s.setReceiver r g).pending = s.pending := rfl

/-! ### endFrame -/

@[simp] theorem State.endFrame_powered : s.endFrame.powered = s.powered := rfl
@[simp] theorem State.endFrame_resetnLow : s.endFrame.resetnLow = s.resetnLow := rfl
@[simp] theorem State.endFrame_pool : s.endFrame.pool = s.pool := rfl
@[simp] theorem State.endFrame_channels : s.endFrame.channels = s.channels := rfl
@[simp] theorem State.endFrame_generators : s.endFrame.generators = s.generators := rfl
@[simp] theorem State.endFrame_deliveries : s.endFrame.deliveries = s.deliveries := rfl
@[simp] theorem State.endFrame_trig : s.endFrame.trig = s.trig := rfl
@[simp] theorem State.endFrame_store : s.endFrame.store = s.store := rfl
@[simp] theorem State.endFrame_jobs : s.endFrame.jobs = s.jobs := rfl
@[simp] theorem State.endFrame_startup : s.endFrame.startup = s.startup := rfl
@[simp] theorem State.endFrame_table : s.endFrame.table = s.table := rfl
@[simp] theorem State.endFrame_notices : s.endFrame.notices = s.notices := rfl
@[simp] theorem State.endFrame_pending : s.endFrame.pending = s.pending := rfl

/-! ### countGood -/

@[simp] theorem State.countGood_powered : s.countGood.powered = s.powered := rfl
@[simp] theorem State.countGood_resetnLow : s.countGood.resetnLow = s.resetnLow := rfl
@[simp] theorem State.countGood_pool : s.countGood.pool = s.pool := rfl
@[simp] theorem State.countGood_channels : s.countGood.channels = s.channels := rfl
@[simp] theorem State.countGood_generators : s.countGood.generators = s.generators := rfl
@[simp] theorem State.countGood_deliveries : s.countGood.deliveries = s.deliveries := rfl
@[simp] theorem State.countGood_trig : s.countGood.trig = s.trig := rfl
@[simp] theorem State.countGood_store : s.countGood.store = s.store := rfl
@[simp] theorem State.countGood_jobs : s.countGood.jobs = s.jobs := rfl
@[simp] theorem State.countGood_startup : s.countGood.startup = s.startup := rfl
@[simp] theorem State.countGood_table : s.countGood.table = s.table := rfl
@[simp] theorem State.countGood_notices : s.countGood.notices = s.notices := rfl
@[simp] theorem State.countGood_pending : s.countGood.pending = s.pending := rfl

/-! ### modSegment -/

@[simp] theorem State.modSegment_powered (id : Byte) (f : Segment → Segment) : (s.modSegment id f).powered = s.powered := rfl
@[simp] theorem State.modSegment_resetnLow (id : Byte) (f : Segment → Segment) : (s.modSegment id f).resetnLow = s.resetnLow := rfl
@[simp] theorem State.modSegment_channels (id : Byte) (f : Segment → Segment) : (s.modSegment id f).channels = s.channels := rfl
@[simp] theorem State.modSegment_generators (id : Byte) (f : Segment → Segment) : (s.modSegment id f).generators = s.generators := rfl
@[simp] theorem State.modSegment_deliveries (id : Byte) (f : Segment → Segment) : (s.modSegment id f).deliveries = s.deliveries := rfl
@[simp] theorem State.modSegment_trig (id : Byte) (f : Segment → Segment) : (s.modSegment id f).trig = s.trig := rfl
@[simp] theorem State.modSegment_store (id : Byte) (f : Segment → Segment) : (s.modSegment id f).store = s.store := rfl
@[simp] theorem State.modSegment_jobs (id : Byte) (f : Segment → Segment) : (s.modSegment id f).jobs = s.jobs := rfl
@[simp] theorem State.modSegment_startup (id : Byte) (f : Segment → Segment) : (s.modSegment id f).startup = s.startup := rfl
@[simp] theorem State.modSegment_link (id : Byte) (f : Segment → Segment) : (s.modSegment id f).link = s.link := rfl
@[simp] theorem State.modSegment_table (id : Byte) (f : Segment → Segment) : (s.modSegment id f).table = s.table := rfl
@[simp] theorem State.modSegment_notices (id : Byte) (f : Segment → Segment) : (s.modSegment id f).notices = s.notices := rfl
@[simp] theorem State.modSegment_pending (id : Byte) (f : Segment → Segment) : (s.modSegment id f).pending = s.pending := rfl

/-! ### createSegment -/

@[simp] theorem State.createSegment_powered (id : Byte) (st : SegState) (n : Nat) (ms : List Mark) (k : Nat) (o : Origin) : (s.createSegment id st n ms k o).powered = s.powered := rfl
@[simp] theorem State.createSegment_resetnLow (id : Byte) (st : SegState) (n : Nat) (ms : List Mark) (k : Nat) (o : Origin) : (s.createSegment id st n ms k o).resetnLow = s.resetnLow := rfl
@[simp] theorem State.createSegment_channels (id : Byte) (st : SegState) (n : Nat) (ms : List Mark) (k : Nat) (o : Origin) : (s.createSegment id st n ms k o).channels = s.channels := rfl
@[simp] theorem State.createSegment_generators (id : Byte) (st : SegState) (n : Nat) (ms : List Mark) (k : Nat) (o : Origin) : (s.createSegment id st n ms k o).generators = s.generators := rfl
@[simp] theorem State.createSegment_deliveries (id : Byte) (st : SegState) (n : Nat) (ms : List Mark) (k : Nat) (o : Origin) : (s.createSegment id st n ms k o).deliveries = s.deliveries := rfl
@[simp] theorem State.createSegment_trig (id : Byte) (st : SegState) (n : Nat) (ms : List Mark) (k : Nat) (o : Origin) : (s.createSegment id st n ms k o).trig = s.trig := rfl
@[simp] theorem State.createSegment_store (id : Byte) (st : SegState) (n : Nat) (ms : List Mark) (k : Nat) (o : Origin) : (s.createSegment id st n ms k o).store = s.store := rfl
@[simp] theorem State.createSegment_jobs (id : Byte) (st : SegState) (n : Nat) (ms : List Mark) (k : Nat) (o : Origin) : (s.createSegment id st n ms k o).jobs = s.jobs := rfl
@[simp] theorem State.createSegment_startup (id : Byte) (st : SegState) (n : Nat) (ms : List Mark) (k : Nat) (o : Origin) : (s.createSegment id st n ms k o).startup = s.startup := rfl
@[simp] theorem State.createSegment_link (id : Byte) (st : SegState) (n : Nat) (ms : List Mark) (k : Nat) (o : Origin) : (s.createSegment id st n ms k o).link = s.link := rfl
@[simp] theorem State.createSegment_table (id : Byte) (st : SegState) (n : Nat) (ms : List Mark) (k : Nat) (o : Origin) : (s.createSegment id st n ms k o).table = s.table := rfl
@[simp] theorem State.createSegment_notices (id : Byte) (st : SegState) (n : Nat) (ms : List Mark) (k : Nat) (o : Origin) : (s.createSegment id st n ms k o).notices = s.notices := rfl
@[simp] theorem State.createSegment_pending (id : Byte) (st : SegState) (n : Nat) (ms : List Mark) (k : Nat) (o : Origin) : (s.createSegment id st n ms k o).pending = s.pending := rfl

/-! ### takeRef -/

@[simp] theorem State.takeRef_powered (id : Byte) : (s.takeRef id).powered = s.powered := rfl
@[simp] theorem State.takeRef_resetnLow (id : Byte) : (s.takeRef id).resetnLow = s.resetnLow := rfl
@[simp] theorem State.takeRef_channels (id : Byte) : (s.takeRef id).channels = s.channels := rfl
@[simp] theorem State.takeRef_generators (id : Byte) : (s.takeRef id).generators = s.generators := rfl
@[simp] theorem State.takeRef_deliveries (id : Byte) : (s.takeRef id).deliveries = s.deliveries := rfl
@[simp] theorem State.takeRef_trig (id : Byte) : (s.takeRef id).trig = s.trig := rfl
@[simp] theorem State.takeRef_store (id : Byte) : (s.takeRef id).store = s.store := rfl
@[simp] theorem State.takeRef_jobs (id : Byte) : (s.takeRef id).jobs = s.jobs := rfl
@[simp] theorem State.takeRef_startup (id : Byte) : (s.takeRef id).startup = s.startup := rfl
@[simp] theorem State.takeRef_link (id : Byte) : (s.takeRef id).link = s.link := rfl
@[simp] theorem State.takeRef_table (id : Byte) : (s.takeRef id).table = s.table := rfl
@[simp] theorem State.takeRef_notices (id : Byte) : (s.takeRef id).notices = s.notices := rfl
@[simp] theorem State.takeRef_pending (id : Byte) : (s.takeRef id).pending = s.pending := rfl

/-! ### fillSamples -/

@[simp] theorem State.fillSamples_powered (g : Segment) (p : Nat) (xs : List Sample) : (s.fillSamples g p xs).powered = s.powered := rfl
@[simp] theorem State.fillSamples_resetnLow (g : Segment) (p : Nat) (xs : List Sample) : (s.fillSamples g p xs).resetnLow = s.resetnLow := rfl
@[simp] theorem State.fillSamples_channels (g : Segment) (p : Nat) (xs : List Sample) : (s.fillSamples g p xs).channels = s.channels := rfl
@[simp] theorem State.fillSamples_generators (g : Segment) (p : Nat) (xs : List Sample) : (s.fillSamples g p xs).generators = s.generators := rfl
@[simp] theorem State.fillSamples_deliveries (g : Segment) (p : Nat) (xs : List Sample) : (s.fillSamples g p xs).deliveries = s.deliveries := rfl
@[simp] theorem State.fillSamples_trig (g : Segment) (p : Nat) (xs : List Sample) : (s.fillSamples g p xs).trig = s.trig := rfl
@[simp] theorem State.fillSamples_store (g : Segment) (p : Nat) (xs : List Sample) : (s.fillSamples g p xs).store = s.store := rfl
@[simp] theorem State.fillSamples_jobs (g : Segment) (p : Nat) (xs : List Sample) : (s.fillSamples g p xs).jobs = s.jobs := rfl
@[simp] theorem State.fillSamples_startup (g : Segment) (p : Nat) (xs : List Sample) : (s.fillSamples g p xs).startup = s.startup := rfl
@[simp] theorem State.fillSamples_link (g : Segment) (p : Nat) (xs : List Sample) : (s.fillSamples g p xs).link = s.link := rfl
@[simp] theorem State.fillSamples_table (g : Segment) (p : Nat) (xs : List Sample) : (s.fillSamples g p xs).table = s.table := rfl
@[simp] theorem State.fillSamples_notices (g : Segment) (p : Nat) (xs : List Sample) : (s.fillSamples g p xs).notices = s.notices := rfl
@[simp] theorem State.fillSamples_pending (g : Segment) (p : Nat) (xs : List Sample) : (s.fillSamples g p xs).pending = s.pending := rfl

/-! ### openEntry -/

@[simp] theorem State.openEntry_powered (tag code : Byte) : (s.openEntry tag code).powered = s.powered := rfl
@[simp] theorem State.openEntry_resetnLow (tag code : Byte) : (s.openEntry tag code).resetnLow = s.resetnLow := rfl
@[simp] theorem State.openEntry_pool (tag code : Byte) : (s.openEntry tag code).pool = s.pool := rfl
@[simp] theorem State.openEntry_channels (tag code : Byte) : (s.openEntry tag code).channels = s.channels := rfl
@[simp] theorem State.openEntry_generators (tag code : Byte) : (s.openEntry tag code).generators = s.generators := rfl
@[simp] theorem State.openEntry_deliveries (tag code : Byte) : (s.openEntry tag code).deliveries = s.deliveries := rfl
@[simp] theorem State.openEntry_trig (tag code : Byte) : (s.openEntry tag code).trig = s.trig := rfl
@[simp] theorem State.openEntry_store (tag code : Byte) : (s.openEntry tag code).store = s.store := rfl
@[simp] theorem State.openEntry_jobs (tag code : Byte) : (s.openEntry tag code).jobs = s.jobs := rfl
@[simp] theorem State.openEntry_startup (tag code : Byte) : (s.openEntry tag code).startup = s.startup := rfl
@[simp] theorem State.openEntry_link (tag code : Byte) : (s.openEntry tag code).link = s.link := rfl
@[simp] theorem State.openEntry_notices (tag code : Byte) : (s.openEntry tag code).notices = s.notices := rfl
@[simp] theorem State.openEntry_pending (tag code : Byte) : (s.openEntry tag code).pending = s.pending := rfl

/-! ### placeReply -/

@[simp] theorem State.placeReply_powered (tag code : Byte) (st : Status) (data : List Byte) : (s.placeReply tag code st data).powered = s.powered := rfl
@[simp] theorem State.placeReply_resetnLow (tag code : Byte) (st : Status) (data : List Byte) : (s.placeReply tag code st data).resetnLow = s.resetnLow := rfl
@[simp] theorem State.placeReply_pool (tag code : Byte) (st : Status) (data : List Byte) : (s.placeReply tag code st data).pool = s.pool := rfl
@[simp] theorem State.placeReply_channels (tag code : Byte) (st : Status) (data : List Byte) : (s.placeReply tag code st data).channels = s.channels := rfl
@[simp] theorem State.placeReply_generators (tag code : Byte) (st : Status) (data : List Byte) : (s.placeReply tag code st data).generators = s.generators := rfl
@[simp] theorem State.placeReply_deliveries (tag code : Byte) (st : Status) (data : List Byte) : (s.placeReply tag code st data).deliveries = s.deliveries := rfl
@[simp] theorem State.placeReply_trig (tag code : Byte) (st : Status) (data : List Byte) : (s.placeReply tag code st data).trig = s.trig := rfl
@[simp] theorem State.placeReply_store (tag code : Byte) (st : Status) (data : List Byte) : (s.placeReply tag code st data).store = s.store := rfl
@[simp] theorem State.placeReply_jobs (tag code : Byte) (st : Status) (data : List Byte) : (s.placeReply tag code st data).jobs = s.jobs := rfl
@[simp] theorem State.placeReply_startup (tag code : Byte) (st : Status) (data : List Byte) : (s.placeReply tag code st data).startup = s.startup := rfl
@[simp] theorem State.placeReply_link (tag code : Byte) (st : Status) (data : List Byte) : (s.placeReply tag code st data).link = s.link := rfl
@[simp] theorem State.placeReply_notices (tag code : Byte) (st : Status) (data : List Byte) : (s.placeReply tag code st data).notices = s.notices := rfl
@[simp] theorem State.placeReply_pending (tag code : Byte) (st : Status) (data : List Byte) : (s.placeReply tag code st data).pending = s.pending := rfl

/-! ### modStartup -/

@[simp] theorem State.modStartup_powered (f : Startup → Startup) : (s.modStartup f).powered = s.powered := rfl
@[simp] theorem State.modStartup_resetnLow (f : Startup → Startup) : (s.modStartup f).resetnLow = s.resetnLow := rfl
@[simp] theorem State.modStartup_pool (f : Startup → Startup) : (s.modStartup f).pool = s.pool := rfl
@[simp] theorem State.modStartup_channels (f : Startup → Startup) : (s.modStartup f).channels = s.channels := rfl
@[simp] theorem State.modStartup_generators (f : Startup → Startup) : (s.modStartup f).generators = s.generators := rfl
@[simp] theorem State.modStartup_deliveries (f : Startup → Startup) : (s.modStartup f).deliveries = s.deliveries := rfl
@[simp] theorem State.modStartup_trig (f : Startup → Startup) : (s.modStartup f).trig = s.trig := rfl
@[simp] theorem State.modStartup_store (f : Startup → Startup) : (s.modStartup f).store = s.store := rfl
@[simp] theorem State.modStartup_jobs (f : Startup → Startup) : (s.modStartup f).jobs = s.jobs := rfl
@[simp] theorem State.modStartup_link (f : Startup → Startup) : (s.modStartup f).link = s.link := rfl
@[simp] theorem State.modStartup_table (f : Startup → Startup) : (s.modStartup f).table = s.table := rfl
@[simp] theorem State.modStartup_notices (f : Startup → Startup) : (s.modStartup f).notices = s.notices := rfl
@[simp] theorem State.modStartup_pending (f : Startup → Startup) : (s.modStartup f).pending = s.pending := rfl

/-! ### jobLeaves -/

@[simp] theorem State.jobLeaves_powered : s.jobLeaves.powered = s.powered := rfl
@[simp] theorem State.jobLeaves_resetnLow : s.jobLeaves.resetnLow = s.resetnLow := rfl
@[simp] theorem State.jobLeaves_pool : s.jobLeaves.pool = s.pool := rfl
@[simp] theorem State.jobLeaves_channels : s.jobLeaves.channels = s.channels := rfl
@[simp] theorem State.jobLeaves_generators : s.jobLeaves.generators = s.generators := rfl
@[simp] theorem State.jobLeaves_deliveries : s.jobLeaves.deliveries = s.deliveries := rfl
@[simp] theorem State.jobLeaves_trig : s.jobLeaves.trig = s.trig := rfl
@[simp] theorem State.jobLeaves_store : s.jobLeaves.store = s.store := rfl
@[simp] theorem State.jobLeaves_startup : s.jobLeaves.startup = s.startup := rfl
@[simp] theorem State.jobLeaves_link : s.jobLeaves.link = s.link := rfl
@[simp] theorem State.jobLeaves_table : s.jobLeaves.table = s.table := rfl
@[simp] theorem State.jobLeaves_notices : s.jobLeaves.notices = s.notices := rfl
@[simp] theorem State.jobLeaves_pending : s.jobLeaves.pending = s.pending := rfl

/-! ### notify -/

@[simp] theorem State.notify_powered (k : NoticeKind) (src : Source) (d : List Byte) : (s.notify k src d).powered = s.powered := rfl
@[simp] theorem State.notify_resetnLow (k : NoticeKind) (src : Source) (d : List Byte) : (s.notify k src d).resetnLow = s.resetnLow := rfl
@[simp] theorem State.notify_pool (k : NoticeKind) (src : Source) (d : List Byte) : (s.notify k src d).pool = s.pool := rfl
@[simp] theorem State.notify_channels (k : NoticeKind) (src : Source) (d : List Byte) : (s.notify k src d).channels = s.channels := rfl
@[simp] theorem State.notify_generators (k : NoticeKind) (src : Source) (d : List Byte) : (s.notify k src d).generators = s.generators := rfl
@[simp] theorem State.notify_deliveries (k : NoticeKind) (src : Source) (d : List Byte) : (s.notify k src d).deliveries = s.deliveries := rfl
@[simp] theorem State.notify_trig (k : NoticeKind) (src : Source) (d : List Byte) : (s.notify k src d).trig = s.trig := rfl
@[simp] theorem State.notify_store (k : NoticeKind) (src : Source) (d : List Byte) : (s.notify k src d).store = s.store := rfl
@[simp] theorem State.notify_jobs (k : NoticeKind) (src : Source) (d : List Byte) : (s.notify k src d).jobs = s.jobs := rfl
@[simp] theorem State.notify_startup (k : NoticeKind) (src : Source) (d : List Byte) : (s.notify k src d).startup = s.startup := rfl
@[simp] theorem State.notify_link (k : NoticeKind) (src : Source) (d : List Byte) : (s.notify k src d).link = s.link := rfl
@[simp] theorem State.notify_table (k : NoticeKind) (src : Source) (d : List Byte) : (s.notify k src d).table = s.table := rfl
@[simp] theorem State.notify_notices (k : NoticeKind) (src : Source) (d : List Byte) :
    (s.notify k src d).notices = s.notices.produce k src d := rfl
@[simp] theorem State.notify_pending (k : NoticeKind) (src : Source) (d : List Byte) : (s.notify k src d).pending = s.pending := rfl

/-! ### What was put is read back -/

@[simp] theorem State.channel_setChannel_self (c : Fin 4) (x : Channel) : (s.setChannel c x).channel c = x := by
  simp [State.channel, State.setChannel]

theorem State.channel_setChannel_other {c d : Fin 4} (h : d ≠ c) (x : Channel) :
    (s.setChannel c x).channel d = s.channel d := by
  have : c.val ≠ d.val := fun e => h (Fin.ext e.symm)
  simp [State.channel, State.setChannel, Vector.getElem_set_ne, this]

@[simp] theorem State.channel_modChannel_self (c : Fin 4) (f : Channel → Channel) :
    (s.modChannel c f).channel c = f (s.channel c) := by
  simp [State.modChannel]

theorem State.channel_modChannel_other {c d : Fin 4} (h : d ≠ c) (f : Channel → Channel) :
    (s.modChannel c f).channel d = s.channel d := State.channel_setChannel_other s h _

@[simp] theorem State.channel_notify (k : NoticeKind) (src : Source) (d : List Byte) (c : Fin 4) :
    (s.notify k src d).channel c = s.channel c := rfl

@[simp] theorem State.channel_modSegment (id : Byte) (f : Segment → Segment) (c : Fin 4) :
    (s.modSegment id f).channel c = s.channel c := rfl

@[simp] theorem State.channel_setTrigger (t : Fin 8) (x : Trigger) (c : Fin 4) :
    (s.setTrigger t x).channel c = s.channel c := rfl

@[simp] theorem State.generator_setGenerator_self (g : Fin 4) (x : Generator) : (s.setGenerator g x).generator g = x := by
  simp [State.generator, State.setGenerator]

theorem State.generator_setGenerator_other {g k : Fin 4} (h : k ≠ g) (x : Generator) :
    (s.setGenerator g x).generator k = s.generator k := by
  have : g.val ≠ k.val := fun e => h (Fin.ext e.symm)
  simp [State.generator, State.setGenerator, Vector.getElem_set_ne, this]

@[simp] theorem State.trigger_setTrigger_self (t : Fin 8) (x : Trigger) : (s.setTrigger t x).trigger t = x := by
  simp [State.trigger, State.setTrigger]

theorem State.trigger_setTrigger_other {t u : Fin 8} (h : u ≠ t) (x : Trigger) :
    (s.setTrigger t x).trigger u = s.trigger u := by
  have : t.val ≠ u.val := fun e => h (Fin.ext e.symm)
  simp [State.trigger, State.setTrigger, Vector.getElem_set_ne, this]

@[simp] theorem State.slot_setSlot_self (n : Fin 32) (x : Slot) : (s.setSlot n x).slot n = x := by
  simp [State.slot, State.setSlot]

theorem State.slot_setSlot_other {n m : Fin 32} (h : m ≠ n) (x : Slot) : (s.setSlot n x).slot m = s.slot m := by
  have : n.val ≠ m.val := fun e => h (Fin.ext e.symm)
  simp [State.slot, State.setSlot, Vector.getElem_set_ne, this]

@[simp] theorem State.segment?_notify (k : NoticeKind) (src : Source) (d : List Byte) (id : Byte) :
    (s.notify k src d).segment? id = s.segment? id := rfl

@[simp] theorem State.segment?_setChannel (c : Fin 4) (x : Channel) (id : Byte) :
    (s.setChannel c x).segment? id = s.segment? id := rfl

@[simp] theorem State.segment?_modChannel (c : Fin 4) (f : Channel → Channel) (id : Byte) :
    (s.modChannel c f).segment? id = s.segment? id := rfl

end Sys2Proof.Machine
end

