-- ==== Sys2Proof/Laws/Lists.lean ====
section
/-!
SUPPORT. The list operations the model uses: changing the first element that passes a test, and running an operation for each
element.
-/

namespace Sys2Proof.Machine

variable {α : Type}

@[simp] theorem modifyFirst_length (p : α → Bool) (f : α → α) (xs : List α) : (modifyFirst p f xs).length = xs.length := by
  induction xs with
  | nil => rfl
  | cons x xs ih => unfold modifyFirst; split <;> simp [ih]

/-- Where nothing passes the test, nothing changes. -/
theorem modifyFirst_none {p : α → Bool} (f : α → α) {xs : List α} (h : xs.any p = false) : modifyFirst p f xs = xs := by
  induction xs with
  | nil => rfl
  | cons x xs ih =>
    simp only [List.any_cons, Bool.or_eq_false_iff] at h
    simp [modifyFirst, h.1, ih h.2]

/-- The change falls on the last element when it is the first that passes. -/
theorem modifyFirst_append_new {p : α → Bool} (f : α → α) {xs : List α} {x : α} (h : xs.any p = false) (hx : p x = true) :
    modifyFirst p f (xs ++ [x]) = xs ++ [f x] := by
  induction xs with
  | nil => simp [modifyFirst, hx]
  | cons y ys ih =>
    simp only [List.any_cons, Bool.or_eq_false_iff] at h
    simp [modifyFirst, h.1, ih h.2]

/-- A change that keeps a key keeps the keys. -/
theorem modifyFirst_map {β : Type} (k : α → β) {p : α → Bool} {f : α → α} (h : ∀ x, k (f x) = k x) (xs : List α) :
    (modifyFirst p f xs).map k = xs.map k := by
  induction xs with
  | nil => rfl
  | cons x xs ih => unfold modifyFirst; split <;> simp [h, ih]

/-- Each element of the result is an element of the list or a changed one. -/
theorem mem_modifyFirst {p : α → Bool} {f : α → α} {xs : List α} {y : α} (h : y ∈ modifyFirst p f xs) :
    y ∈ xs ∨ ∃ x ∈ xs, p x = true ∧ y = f x := by
  induction xs with
  | nil => simp [modifyFirst] at h
  | cons x xs ih =>
    unfold modifyFirst at h
    split at h
    case isTrue hp =>
      rcases List.mem_cons.mp h with rfl | h
      · exact .inr ⟨x, by simp, hp, rfl⟩
      · exact .inl (by simp [h])
    case isFalse hp =>
      rcases List.mem_cons.mp h with rfl | h
      · exact .inl (by simp)
      · rcases ih h with h | ⟨z, hz, hpz, e⟩
        · exact .inl (by simp [h])
        · exact .inr ⟨z, by simp [hz], hpz, e⟩

/-- What every single run keeps, the whole run keeps. -/
theorem forEach_keeps {β : Type} {f : α → State → State} (k : State → β) (h : ∀ x s, k (f x s) = k s) (xs : List α)
    (s : State) : k (forEach f xs s) = k s := by
  induction xs generalizing s with
  | nil => rfl
  | cons x xs ih => exact (ih (f x s)).trans (h x s)

/-- An invariant of every single run is one of the whole run. -/
theorem forEach_inv {f : α → State → State} (P : State → Prop) (h : ∀ x s, P s → P (f x s)) (xs : List α) {s : State}
    (hs : P s) : P (forEach f xs s) := by
  induction xs generalizing s with
  | nil => exact hs
  | cons x xs ih => exact ih (h x s hs)

end Sys2Proof.Machine
end

