-- ==== Sys2Proof/Laws/Memory.lean ====
section
/-!
SUPPORT. The sample memory: every operation keeps the canonical form, a read gives the last byte written, other addresses keep
theirs; and the bytes of a sample.
-/

namespace Sys2Proof.Machine

/-- All addresses of the list are above `a`. -/
def Above (a : Nat) (m : Memory) : Prop := ∀ c ∈ m, a < c.1

theorem wf_cons {a : Nat} {x : Byte} {m : Memory} :
    Memory.wf ((a, x) :: m) = true ↔ Above a m ∧ x ≠ 0 ∧ Memory.wf m = true := by
  simp only [Memory.wf, List.pairwise_cons, List.all_cons, Bool.and_eq_true, decide_eq_true_eq, bne_iff_ne, Above]
  tauto

@[simp] theorem wf_nil : Memory.wf [] = true := by simp [Memory.wf]

theorem readByte_above {a : Nat} {m : Memory} (h : Above a m) : readByte m a = 0 := by
  induction m with
  | nil => rfl
  | cons c m ih =>
    obtain ⟨b, x⟩ := c
    have hb : a < b := h (b, x) (by simp)
    rw [readByte, if_neg (by omega)]
    exact ih (fun c hc => h c (by simp [hc]))

theorem writeByte_above {b a : Nat} {v : Byte} {m : Memory} (h : Above b m) (ha : b < a) : Above b (writeByte m a v) := by
  induction m with
  | nil => unfold writeByte; split <;> simp [Above, ha]
  | cons c m ih =>
    obtain ⟨d, x⟩ := c
    have hd : b < d := h (d, x) (by simp)
    have hm : Above b m := fun c hc => h c (by simp [hc])
    unfold writeByte
    split
    · split
      · exact h
      · intro c hc; simp only [List.mem_cons] at hc; rcases hc with rfl | rfl | hc <;> [exact ha; exact hd; exact hm _ hc]
    · split
      · split
        · exact hm
        · intro c hc; simp only [List.mem_cons] at hc; rcases hc with rfl | hc <;> [exact ha; exact hm _ hc]
      · intro c hc; simp only [List.mem_cons] at hc; rcases hc with rfl | hc <;> [exact hd; exact ih hm _ hc]

/-- A write keeps the canonical form. -/
theorem writeByte_wf {m : Memory} (h : Memory.wf m = true) (a : Nat) (v : Byte) : Memory.wf (writeByte m a v) = true := by
  induction m with
  | nil => unfold writeByte; split <;> simp_all [wf_cons, Above]
  | cons c m ih =>
    obtain ⟨b, x⟩ := c
    obtain ⟨hab, hx, hm⟩ := wf_cons.mp h
    unfold writeByte
    split
    case isTrue hlt =>
      split
      · exact h
      case isFalse hv =>
        refine wf_cons.mpr ⟨?_, hv, h⟩
        intro c hc; simp only [List.mem_cons] at hc
        rcases hc with rfl | hc
        · exact hlt
        · exact Nat.lt_trans hlt (hab _ hc)
    case isFalse hlt =>
      split
      case isTrue he =>
        split
        · exact hm
        case isFalse hv => exact wf_cons.mpr ⟨he ▸ hab, hv, hm⟩
      case isFalse he => exact wf_cons.mpr ⟨writeByte_above hab (by omega), hx, ih hm⟩

/-- Reading after a write of one byte. -/
theorem readByte_writeByte {m : Memory} (h : Memory.wf m = true) (a k : Nat) (v : Byte) :
    readByte (writeByte m a v) k = if k = a then v else readByte m k := by
  induction m with
  | nil => unfold writeByte; split <;> split <;> simp_all [readByte]
  | cons c m ih =>
    obtain ⟨b, x⟩ := c
    obtain ⟨hab, hx, hm⟩ := wf_cons.mp h
    unfold writeByte
    split
    case isTrue hlt =>
      split
      case isTrue hv =>
        split
        case isTrue hk =>
          subst hk; rw [readByte, if_neg (by omega), hv]
          exact readByte_above (fun c hc => Nat.lt_trans hlt (hab c hc))
        · rfl
      · simp only [readByte]
    case isFalse hlt =>
      split
      case isTrue he =>
        subst he
        split
        case isTrue hv =>
          split
          case isTrue hk => subst hk; rw [hv]; exact readByte_above hab
          case isFalse hk => rw [readByte, if_neg hk]
        · simp only [readByte]; split <;> rfl
      case isFalse he =>
        rw [readByte, readByte, ih hm]
        by_cases hkb : k = b
        · subst hkb; simp [Ne.symm he]
        · simp [hkb]

/-- The two bytes of a sample give it back. -/
theorem half_lo_hi (x : Half) : half (loByte x) (hiByte x) = x := by
  apply BitVec.eq_of_toNat_eq
  simp only [half, loByte, hiByte, BitVec.toNat_ofNat, BitVec.toNat_setWidth, BitVec.toNat_ushiftRight, Nat.shiftRight_eq_div_pow]
  have := x.isLt
  omega

theorem sampleAddr_even (blocks : List Nat) (p : Nat) : sampleAddr blocks p % 2 = 0 := by
  simp [sampleAddr]

theorem writeSample_wf {m : Memory} (h : Memory.wf m = true) (blocks : List Nat) (p : Nat) (x : Sample) :
    Memory.wf (writeSample m blocks p x) = true := writeByte_wf (writeByte_wf h _ _) _ _

/-- Reading a sample after a write of one: the sample written where the addresses are equal, the old one elsewhere. -/
theorem readSample_writeSample {m : Memory} (h : Memory.wf m = true) (bs cs : List Nat) (p q : Nat) (x : Sample) :
    readSample (writeSample m bs p x) cs q = if sampleAddr cs q = sampleAddr bs p then x else readSample m cs q := by
  have h1 := writeByte_wf h (sampleAddr bs p) (loByte x)
  have e1 := sampleAddr_even bs p
  have e2 := sampleAddr_even cs q
  unfold readSample writeSample
  simp only [readByte_writeByte h1, readByte_writeByte h]
  by_cases hq : sampleAddr cs q = sampleAddr bs p
  · simp [hq, half_lo_hi]
  · have n1 : sampleAddr cs q ≠ sampleAddr bs p + 1 := by omega
    have n2 : sampleAddr cs q + 1 ≠ sampleAddr bs p := by omega
    simp [hq, n1, n2]

/-- A run of writes keeps the canonical form. -/
theorem writeRun_wf (blocks : List Nat) (xs : List Sample) (p : Nat) {m : Memory} (h : Memory.wf m = true) :
    Memory.wf (writeRun blocks p xs m) = true := by
  induction xs generalizing p m with
  | nil => exact h
  | cons x xs ih => exact ih (p + 1) (writeSample_wf h _ _ _)

end Sys2Proof.Machine
end

