-- ==== Sys2Proof/Laws/PerInstr.lean ====
section
/-!
SUPPORT. A law stated for every command: its frame, where it is one, fits the LENGTH field (R143).
-/

namespace Sys2Proof.Laws

/-- A body's bytes under a code are at most 247, so that with KIND, TAG and the code they are at most 250. -/
theorem bodyBytes_length {α : Type} {code : Byte} {ok : α → Bool} {f : α → List Byte} (b : Body α)
    (h : ∀ x, ok x = true → (f x).length ≤ 247) (w : b.wellFormed code ok = true) : (b.bytes f).length ≤ 247 := by
  cases b with
  | fields x => exact h x w
  | malformed bs =>
    simp only [Body.wellFormed, Bool.and_eq_true, decide_eq_true_eq] at w
    unfold maxBody at w
    simp only [Body.bytes]; omega

@[simp] theorem u8_length (n : Nat) : (u8 n).length = 1 := rfl
@[simp] theorem halfBytes_length (x : Half) : (halfBytes x).length = 2 := rfl
@[simp] theorem u32_length (n : Nat) : (u32 n).length = 4 := rfl

@[simp] theorem rawMarksBytes_length (ms : List RawMark) : (rawMarksBytes ms).length = 4 * ms.length := by
  induction ms with
  | nil => rfl
  | cons m ms ih => simp only [rawMarksBytes, RawMark.bytes, List.length_append, ih, List.length_cons, halfBytes_length,
      List.length_nil]; omega

@[simp] theorem samplesBytes_length (xs : List Sample) : (samplesBytes xs).length = 2 * xs.length := by
  induction xs with
  | nil => rfl
  | cons x xs ih => simp only [samplesBytes, List.length_append, ih, List.length_cons, halfBytes_length]; omega

theorem CreateFields.bytes_length (f : CreateFields) (h : f.ok = true) : f.bytes.length ≤ 247 := by
  simp only [CreateFields.ok, decide_eq_true_eq] at h
  unfold maxBody at h
  simp [CreateFields.bytes]; omega

theorem WriteFields.bytes_length (f : WriteFields) (h : f.ok = true) : f.bytes.length ≤ 247 := by
  simp only [WriteFields.ok, decide_eq_true_eq] at h
  unfold Config.maxWrite at h
  simp [WriteFields.bytes]; omega

theorem PlanFields.bytes_length (f : PlanFields) (h : f.ok = true) : f.bytes.length ≤ 247 := by
  simp only [PlanFields.ok, Bool.and_eq_true, decide_eq_true_eq] at h
  unfold maxBody at h
  simp [PlanFields.bytes]; omega

namespace Frame

/-- A command that is a good frame has 2–250 bytes of KIND, TAG and BODY, as its LENGTH field says (R143). -/
def Statement (i : Instr) : Prop :=
  ∀ c, i.content? = some c → i.wellFormed = true → 2 ≤ c.length ∧ c.length ≤ 250

/-- A request whose body bytes fit. -/
theorem of_body {i : Instr} {code : Byte} (hc : i.content? = some (kindRequest :: i.tag :: code :: i.bodyBytes))
    (h : i.wellFormed = true → i.bodyBytes.length ≤ 247) : Statement i := by
  intro c e w
  rw [hc] at e
  cases e
  have := h w
  simp only [List.length_cons]; omega

/-- A command that is no frame. -/
theorem of_none {i : Instr} (h : i.content? = none) : Statement i := fun c e => by rw [h] at e; cases e

theorem createSegment (tag : Byte) (body : Body CreateFields) : Statement (.createSegment tag body) :=
  of_body rfl (bodyBytes_length body CreateFields.bytes_length)
theorem writeSamples (tag : Byte) (body : Body WriteFields) : Statement (.writeSamples tag body) :=
  of_body rfl (bodyBytes_length body WriteFields.bytes_length)
theorem sealSegment (tag : Byte) (body : Body Byte) : Statement (.sealSegment tag body) :=
  of_body rfl (bodyBytes_length body (fun _ _ => by simp))
theorem deleteSegment (tag : Byte) (body : Body Byte) : Statement (.deleteSegment tag body) :=
  of_body rfl (bodyBytes_length body (fun _ _ => by simp))
theorem getSegment (tag : Byte) (body : Body GetSegmentFields) : Statement (.getSegment tag body) :=
  of_body rfl (bodyBytes_length body (fun _ _ => by simp))
theorem getPool (tag : Byte) (body : Body Unit) : Statement (.getPool tag body) :=
  of_body rfl (bodyBytes_length body (fun _ _ => by simp))
theorem configureChannel (tag : Byte) (body : Body ConfigFields) : Statement (.configureChannel tag body) :=
  of_body rfl (bodyBytes_length body (fun f _ => by simp [ConfigFields.bytes]))
theorem enqueue (tag : Byte) (body : Body EnqueueFields) : Statement (.enqueue tag body) :=
  of_body rfl (bodyBytes_length body (fun f _ => by simp [EnqueueFields.bytes]))
theorem start (tag : Byte) (run : StartRun) : Statement (.start tag run) := by
  obtain ⟨body, _ | _⟩ := run
  · exact of_body rfl (bodyBytes_length body (fun _ _ => by simp))
  · exact of_none rfl
theorem stopImmediate (tag : Byte) (body : Body StopFields) : Statement (.stopImmediate tag body) :=
  of_body rfl (bodyBytes_length body (fun _ _ => by simp))
theorem stopAtPassEnd (tag : Byte) (mask : Byte) : Statement (.stopAtPassEnd tag mask) :=
  of_body rfl (fun _ => by simp [Instr.bodyBytes])
theorem release (tag : Byte) (body : Body Byte) : Statement (.release tag body) :=
  of_body rfl (bodyBytes_length body (fun _ _ => by simp))
theorem flush (tag : Byte) (body : Body Byte) : Statement (.flush tag body) :=
  of_body rfl (bodyBytes_length body (fun _ _ => by simp))
theorem getChannel (tag : Byte) (body : Body Byte) : Statement (.getChannel tag body) :=
  of_body rfl (bodyBytes_length body (fun _ _ => by simp))
theorem setRate (tag : Byte) (body : Body RateFields) : Statement (.setRate tag body) :=
  of_body rfl (bodyBytes_length body (fun f _ => by simp [RateFields.bytes]))
theorem runRates (tag : Byte) (body : Body Byte) : Statement (.runRates tag body) :=
  of_body rfl (bodyBytes_length body (fun _ _ => by simp))
theorem haltRates (tag : Byte) (body : Body Byte) : Statement (.haltRates tag body) :=
  of_body rfl (bodyBytes_length body (fun _ _ => by simp))
theorem getRates (tag : Byte) (body : Body Unit) : Statement (.getRates tag body) :=
  of_body rfl (bodyBytes_length body (fun _ _ => by simp))
theorem setInputs (tag : Byte) (body : Body InputsFields) : Statement (.setInputs tag body) :=
  of_body rfl (bodyBytes_length body (fun f _ => by simp [InputsFields.bytes]))
theorem defineTrigger (tag : Byte) (body : Body TriggerFields) : Statement (.defineTrigger tag body) :=
  of_body rfl (bodyBytes_length body (fun f _ => by simp [TriggerFields.bytes]))
theorem fire (tag : Byte) (body : Body Byte) : Statement (.fire tag body) :=
  of_body rfl (bodyBytes_length body (fun _ _ => by simp))
theorem getTrigger (tag : Byte) (body : Body Byte) : Statement (.getTrigger tag body) :=
  of_body rfl (bodyBytes_length body (fun _ _ => by simp))
theorem getInputs (tag : Byte) (body : Body Unit) : Statement (.getInputs tag body) :=
  of_body rfl (bodyBytes_length body (fun _ _ => by simp))
theorem save (tag : Byte) (body : Body SaveFields) : Statement (.save tag body) :=
  of_body rfl (bodyBytes_length body (fun f h => by
    simp only [SaveFields.ok, decide_eq_true_eq] at h
    unfold maxBody at h
    simp only [List.length_cons]; omega))
theorem load (tag : Byte) (body : Body LoadFields) : Statement (.load tag body) :=
  of_body rfl (bodyBytes_length body (fun _ _ => by simp))
theorem erase (tag : Byte) (body : Body Byte) : Statement (.erase tag body) :=
  of_body rfl (bodyBytes_length body (fun _ _ => by simp))
theorem setLock (tag : Byte) (body : Body LockFields) : Statement (.setLock tag body) :=
  of_body rfl (bodyBytes_length body (fun _ _ => by simp))
theorem freeze (tag : Byte) (body : Body Byte) : Statement (.freeze tag body) :=
  of_body rfl (bodyBytes_length body (fun _ _ => by simp))
theorem savePlan (tag : Byte) (body : Body PlanFields) : Statement (.savePlan tag body) :=
  of_body rfl (bodyBytes_length body PlanFields.bytes_length)
theorem clearPlan (tag : Byte) (body : Body Unit) : Statement (.clearPlan tag body) :=
  of_body rfl (bodyBytes_length body (fun _ _ => by simp))
theorem cancel (tag : Byte) (body : Body Byte) : Statement (.cancel tag body) :=
  of_body rfl (bodyBytes_length body (fun _ _ => by simp))
theorem getSlot (tag : Byte) (body : Body Byte) : Statement (.getSlot tag body) :=
  of_body rfl (bodyBytes_length body (fun _ _ => by simp))
theorem getStore (tag : Byte) (body : Body (Option Byte)) : Statement (.getStore tag body) :=
  of_body rfl (bodyBytes_length body (fun f _ => by cases f <;> simp))
theorem getPlan (tag : Byte) (body : Body Unit) : Statement (.getPlan tag body) :=
  of_body rfl (bodyBytes_length body (fun _ _ => by simp))
theorem reset (tag : Byte) (body : Body Unit) : Statement (.reset tag body) :=
  of_body rfl (bodyBytes_length body (fun _ _ => by simp))
theorem abortPlan (tag : Byte) (body : Body Unit) : Statement (.abortPlan tag body) :=
  of_body rfl (bodyBytes_length body (fun _ _ => by simp))
theorem setNotices (tag : Byte) (body : Body NoticesFields) : Statement (.setNotices tag body) :=
  of_body rfl (bodyBytes_length body (fun f _ => by simp [NoticesFields.bytes]))
theorem getLink (tag : Byte) (body : Body Byte) : Statement (.getLink tag body) :=
  of_body rfl (bodyBytes_length body (fun _ _ => by simp))
theorem getPart (tag : Byte) (body : Body Unit) : Statement (.getPart tag body) :=
  of_body rfl (bodyBytes_length body (fun _ _ => by simp))
theorem unknownRequest (tag : Byte) (body : List Byte) : Statement (.unknownRequest tag body) := by
  intro c e w
  simp only [Instr.wellFormed, Bool.and_eq_true, decide_eq_true_eq] at w
  unfold maxBody at w
  simp only [Instr.content?, Option.some.injEq] at e
  subst e
  simp only [List.length_cons]; omega

theorem noticeAcknowledgement (seq : Byte) (body : List Byte) : Statement (.noticeAcknowledgement seq body) := by
  intro c e w
  simp only [Instr.wellFormed, decide_eq_true_eq] at w
  unfold maxBody at w
  simp only [Instr.content?, Option.some.injEq] at e
  subst e
  simp only [List.length_cons]; omega

theorem lengthError (value : Byte) : Statement (.lengthError value) := of_none rfl
theorem checkError (content : List Byte) (check : Half) : Statement (.checkError content check) := of_none rfl
theorem kindError (kind : Byte) (tag : Byte) (body : List Byte) : Statement (.kindError kind tag body) := by
  intro c e w
  simp only [Instr.wellFormed, Bool.and_eq_true, decide_eq_true_eq] at w
  unfold maxBody at w
  simp only [Instr.content?, Option.some.injEq] at e
  subst e
  simp only [List.length_cons]; omega

theorem gapError : Statement .gapError := of_none rfl
theorem stopBitError : Statement .stopBitError := of_none rfl
theorem huntByte (value : Byte) : Statement (.huntByte value) := of_none rfl
theorem lineBreak : Statement .lineBreak := of_none rfl
theorem replyFrameEnd : Statement .replyFrameEnd := of_none rfl
theorem noticeFrameEnd : Statement .noticeFrameEnd := of_none rfl
theorem retransmitTimerExpiry : Statement .retransmitTimerExpiry := of_none rfl
theorem tick (made : TickMade) : Statement (.tick made) := of_none rfl
theorem tickDelivery (channel : Fin 4) (generator : Fin 4) : Statement (.tickDelivery channel generator) := of_none rfl
theorem sample (levels : Byte) (order : List (Fin 8)) : Statement (.sample levels order) := of_none rfl
theorem blockTransfer (cells : List (Nat × Sample)) : Statement (.blockTransfer cells) := of_none rfl
theorem saveCompletion : Statement .saveCompletion := of_none rfl
theorem loadCompletion (cells : List (Nat × Sample)) : Statement (.loadCompletion cells) := of_none rfl
theorem eraseCompletion : Statement .eraseCompletion := of_none rfl
theorem setLockCompletion : Statement .setLockCompletion := of_none rfl
theorem savePlanCompletion : Statement .savePlanCompletion := of_none rfl
theorem clearPlanCompletion : Statement .clearPlanCompletion := of_none rfl
theorem scanCompletion : Statement .scanCompletion := of_none rfl
theorem powerOn (straps : BitVec 2) : Statement (.powerOn straps) := of_none rfl
theorem powerLoss : Statement .powerLoss := of_none rfl
theorem resetnAsserted : Statement .resetnAsserted := of_none rfl
theorem pinReset (straps : BitVec 2) : Statement (.pinReset straps) := of_none rfl
theorem syncByte : Statement .syncByte := of_none rfl
theorem frameByte (value : Byte) : Statement (.frameByte value) := of_none rfl
theorem rxdReturnsToMark : Statement .rxdReturnsToMark := of_none rfl

end Frame

end Sys2Proof.Laws
end

