-- ==== Sys2Proof/Laws/Requests.lean ====
section
/-!
SUPPORT. What the taking of a request, the arbiter, the Notice Queue and an event can do.
-/

namespace Sys2Proof.Machine

/-! ### Taking -/

/-- A request frame is refused by a record, or taken: then no entry holds its tag, fewer than 8 entries stand, and the part has
started or the request is exempt. -/
theorem takeRequest_cases {α : Type} (tag code : Byte) (exempt : Bool) (body : Body α) (owner : α → State → Owned) (s : State) :
    (∃ st, takeRequest tag code exempt body owner s = s.refuse tag code st) ∨
    (∃ f, body = .fields f ∧ s.table.entries.any (Pending.holds tag) = false ∧ s.table.entries.length < Config.maxEntries ∧
      (exempt = true ∨ s.startup.phase = .ready) ∧
      takeRequest tag code exempt body owner s = placeOwned tag code (owner f (s.openEntry tag code))) := by
  cases body with
  | malformed bs => exact .inl ⟨.badFormat, rfl⟩
  | fields f =>
    cases h : genericCheck tag exempt s with
    | some st => exact .inl ⟨st, by simp [takeRequest, h]⟩
    | none =>
      refine .inr ⟨f, rfl, ?_⟩
      unfold genericCheck at h
      split at h
      · cases h
      case isFalse h1 =>
        split at h
        · cases h
        case isFalse h2 =>
          split at h
          · cases h
          case isFalse h3 =>
            refine ⟨by simpa using h1, by omega, ?_, ?_⟩
            · cases exempt <;> simp_all [State.isStarting]
            · simp [takeRequest, genericCheck, h1, h2, h3]

/-- The reply to an entry just opened: the entry is QUEUED and stands last. -/
theorem placeReply_new_entry {s u : State} (tag code : Byte) (st : Status) (data : List Byte)
    (h : s.table.entries.any (Pending.holds tag) = false) (hu : u.table = (s.openEntry tag code).table) :
    (u.placeReply tag code st data).table =
      { entries := s.table.entries ++ [⟨tag, code, .queued, false⟩]
        line := s.table.line ++ [.reply tag code st data] } := by
  have hn : Pending.holds tag ⟨tag, code, .awaiting, false⟩ = true := by simp [Pending.holds]
  simp [State.placeReply, hu, State.openEntry, modifyFirst_append_new _ h hn]

/-- A refusal is a record at the tail of the line, or counted as dropped. -/
theorem refuse_cases (s : State) (tag code : Byte) (st : Status) :
    (s.refusalsUsed < Config.maxRefusals ∧
      s.refuse tag code st = { s with table := { s.table with line := s.table.line ++ [.refusal tag code st] } }) ∨
    (Config.maxRefusals ≤ s.refusalsUsed ∧
      s.refuse tag code st = s.count (fun c => { c with refusalsDropped := satInc c.refusalsDropped })) := by
  unfold State.refuse
  split
  case isTrue h => exact .inl ⟨h, rfl⟩
  case isFalse h => exact .inr ⟨Nat.le_of_not_lt h, rfl⟩

/-! ### The arbiter -/

/-- The arbiter leaves a busy transmitter, sends the oldest item of the line, else the offered notice, else nothing. -/
theorem arbitrate_cases (s : State) :
    (s.link.tx ≠ .free ∧ s.arbitrate = s) ∨
    (∃ item rest, s.link.tx = .free ∧ s.table.line = item :: rest ∧ s.arbitrate = s.beginReply item rest) ∨
    (∃ r, s.link.tx = .free ∧ s.table.line = [] ∧ s.notices.offer = some r ∧ s.arbitrate = s.beginNotice r) ∨
    (s.link.tx = .free ∧ s.table.line = [] ∧ s.notices.offer = none ∧ s.arbitrate = s) := by
  unfold State.arbitrate
  split
  case h_1 ht =>
    split
    case h_1 item rest hl => exact .inr (.inl ⟨item, rest, ht, hl, rfl⟩)
    case h_2 hl =>
      split
      case h_1 r ho => exact .inr (.inr (.inl ⟨r, ht, hl, ho, rfl⟩))
      case h_2 ho => exact .inr (.inr (.inr ⟨ht, hl, ho, rfl⟩))
  case h_2 ht => exact .inl ⟨fun h => ht h, rfl⟩

/-- What the arbiter never touches. -/
theorem arbitrate_frame (s : State) :
    s.arbitrate.powered = s.powered ∧ s.arbitrate.resetnLow = s.resetnLow ∧ s.arbitrate.pool = s.pool ∧
    s.arbitrate.channels = s.channels ∧ s.arbitrate.generators = s.generators ∧ s.arbitrate.deliveries = s.deliveries ∧
    s.arbitrate.trig = s.trig ∧ s.arbitrate.store = s.store ∧ s.arbitrate.jobs = s.jobs ∧ s.arbitrate.startup = s.startup ∧
    s.arbitrate.pending = s.pending := by
  rcases arbitrate_cases s with ⟨_, h⟩ | ⟨_, _, _, _, h⟩ | ⟨r, _, _, _, h⟩ | ⟨_, _, _, h⟩
  · simp [h]
  · rw [h]; exact ⟨rfl, rfl, rfl, rfl, rfl, rfl, rfl, rfl, rfl, rfl, rfl⟩
  · rw [h]; unfold State.beginNotice; split <;> exact ⟨rfl, rfl, rfl, rfl, rfl, rfl, rfl, rfl, rfl, rfl, rfl⟩
  · simp [h]

@[simp] theorem State.arbitrate_powered (s : State) : s.arbitrate.powered = s.powered := (arbitrate_frame s).1
@[simp] theorem State.arbitrate_resetnLow (s : State) : s.arbitrate.resetnLow = s.resetnLow := (arbitrate_frame s).2.1
@[simp] theorem State.arbitrate_pool (s : State) : s.arbitrate.pool = s.pool := (arbitrate_frame s).2.2.1
@[simp] theorem State.arbitrate_channels (s : State) : s.arbitrate.channels = s.channels := (arbitrate_frame s).2.2.2.1
@[simp] theorem State.arbitrate_generators (s : State) : s.arbitrate.generators = s.generators :=
  (arbitrate_frame s).2.2.2.2.1
@[simp] theorem State.arbitrate_deliveries (s : State) : s.arbitrate.deliveries = s.deliveries :=
  (arbitrate_frame s).2.2.2.2.2.1
@[simp] theorem State.arbitrate_trig (s : State) : s.arbitrate.trig = s.trig := (arbitrate_frame s).2.2.2.2.2.2.1
@[simp] theorem State.arbitrate_store (s : State) : s.arbitrate.store = s.store := (arbitrate_frame s).2.2.2.2.2.2.2.1
@[simp] theorem State.arbitrate_jobs (s : State) : s.arbitrate.jobs = s.jobs := (arbitrate_frame s).2.2.2.2.2.2.2.2.1
@[simp] theorem State.arbitrate_startup (s : State) : s.arbitrate.startup = s.startup :=
  (arbitrate_frame s).2.2.2.2.2.2.2.2.2.1
@[simp] theorem State.arbitrate_pending (s : State) : s.arbitrate.pending = s.pending :=
  (arbitrate_frame s).2.2.2.2.2.2.2.2.2.2

/-- An event of a working part is its effect and then the arbiter's choice; another part takes none. -/
theorem event_cases (s : State) (f : State → State) :
    (s.alive = true ∧ s.event f = (f s).arbitrate) ∨ (s.alive = false ∧ s.event f = s) := by
  unfold State.event
  cases h : s.alive <;> simp

/-! ### The Notice Queue -/

/-- A notice handed to the queue is not produced, merges, is appended, or is lost and counted (R179). -/
theorem produce_cases (q : Notices) (k : NoticeKind) (src : Source) (d : List Byte) :
    (q.enabled k = false ∧ q.produce k src d = q) ∨
    (q.enabled k = true ∧ q.records.any (Notice.mergesWith k src) = true ∧
      q.produce k src d = { q with
        records :=
          modifyFirst (Notice.mergesWith k src) (fun r => { r with count := satInc r.count, detail := d }) q.records }) ∨
    (q.enabled k = true ∧ q.records.any (Notice.mergesWith k src) = false ∧ q.records.length < Config.maxNotices ∧
      q.produce k src d = { q with records := q.records ++ [⟨k, src, d, 1, .new⟩] }) ∨
    (q.enabled k = true ∧ q.records.any (Notice.mergesWith k src) = false ∧ Config.maxNotices ≤ q.records.length ∧
      q.produce k src d = { q with tally := satInc q.tally, total := satInc q.total }) := by
  cases he : q.enabled k
  · exact .inl ⟨rfl, by simp [Notices.produce, he]⟩
  · cases hm : q.records.any (Notice.mergesWith k src)
    · by_cases hl : q.records.length < Config.maxNotices
      · exact .inr (.inr (.inl ⟨rfl, rfl, hl, by simp [Notices.produce, he, hm, hl]⟩))
      · exact .inr (.inr (.inr ⟨rfl, rfl, by omega, by simp [Notices.produce, he, hm, hl]⟩))
    · exact .inr (.inl ⟨rfl, rfl, by simp [Notices.produce, he, hm]⟩)

/-- A production leaves the settings, the next number and the timer. -/
theorem produce_frame (q : Notices) (k : NoticeKind) (src : Source) (d : List Byte) :
    (q.produce k src d).window = q.window ∧ (q.produce k src d).enable = q.enable ∧
    (q.produce k src d).nextSeq = q.nextSeq ∧ (q.produce k src d).timer = q.timer := by
  rcases produce_cases q k src d with ⟨_, h⟩ | ⟨_, _, h⟩ | ⟨_, _, _, h⟩ | ⟨_, _, _, h⟩ <;> simp [h]

/-- The queue never holds more than 32 records. -/
theorem produce_length (q : Notices) (k : NoticeKind) (src : Source) (d : List Byte)
    (h : q.records.length ≤ Config.maxNotices) : (q.produce k src d).records.length ≤ Config.maxNotices := by
  rcases produce_cases q k src d with ⟨_, e⟩ | ⟨_, _, e⟩ | ⟨_, _, hl, e⟩ | ⟨_, _, _, e⟩
  · simpa [e] using h
  · simpa [e] using h
  · rw [e]; simp only [List.length_append, List.length_singleton]; omega
  · simpa [e] using h

end Sys2Proof.Machine
end

