-- ==== Sys2Proof/Laws/Pool.lean ====
section
/-!
SUPPORT. What the operations on segments and references can do.
-/

namespace Sys2Proof.Machine

/-- A release finds no record, frees the segment, or lowers its refs (R12). -/
theorem releaseRef_cases (s : State) (id : Byte) :
    (s.segment? id = none ∧ s.releaseRef id = s) ∨
    (∃ g, s.segment? id = some g ∧ g.refs - 1 = 0 ∧ (g.retiring = true ∨ g.state = .failed) ∧
      s.releaseRef id = s.freeSegment { g with refs := g.refs - 1 } true) ∨
    (∃ g, s.segment? id = some g ∧ ¬(g.refs - 1 = 0 ∧ (g.retiring = true ∨ g.state = .failed)) ∧
      s.releaseRef id = s.modSegment id (fun x => { x with refs := x.refs - 1 })) := by
  unfold State.releaseRef
  split
  case h_1 h => exact .inl ⟨h, rfl⟩
  case h_2 g h =>
    split
    case isTrue hc => exact .inr (.inl ⟨g, h, hc.1, hc.2, rfl⟩)
    case isFalse hc => exact .inr (.inr ⟨g, h, hc, rfl⟩)

/-- What the freeing of a segment leaves. -/
theorem freeSegment_frame (s : State) (g : Segment) (b : Bool) :
    (s.freeSegment g b).channels = s.channels ∧ (s.freeSegment g b).generators = s.generators ∧
    (s.freeSegment g b).deliveries = s.deliveries ∧ (s.freeSegment g b).trig = s.trig ∧
    (s.freeSegment g b).store = s.store ∧ (s.freeSegment g b).jobs = s.jobs ∧
    (s.freeSegment g b).startup = s.startup ∧ (s.freeSegment g b).link = s.link ∧ (s.freeSegment g b).table = s.table ∧
    (s.freeSegment g b).pending = s.pending ∧ (s.freeSegment g b).powered = s.powered ∧
    (s.freeSegment g b).resetnLow = s.resetnLow ∧ (s.freeSegment g b).pool.mem = s.pool.mem := by
  unfold State.freeSegment
  cases b <;> simp [State.notify]

/-- What a release leaves: everything but the free list, the map and the notices. -/
theorem releaseRef_frame (s : State) (id : Byte) :
    (s.releaseRef id).channels = s.channels ∧ (s.releaseRef id).generators = s.generators ∧
    (s.releaseRef id).deliveries = s.deliveries ∧ (s.releaseRef id).trig = s.trig ∧
    (s.releaseRef id).store = s.store ∧ (s.releaseRef id).jobs = s.jobs ∧
    (s.releaseRef id).startup = s.startup ∧ (s.releaseRef id).link = s.link ∧ (s.releaseRef id).table = s.table ∧
    (s.releaseRef id).pending = s.pending ∧ (s.releaseRef id).powered = s.powered ∧
    (s.releaseRef id).resetnLow = s.resetnLow ∧ (s.releaseRef id).pool.mem = s.pool.mem := by
  rcases releaseRef_cases s id with ⟨_, h⟩ | ⟨g, _, _, _, h⟩ | ⟨g, _, _, h⟩ <;> rw [h]
  · simp
  · exact freeSegment_frame s _ true
  · exact ⟨rfl, rfl, rfl, rfl, rfl, rfl, rfl, rfl, rfl, rfl, rfl, rfl, rfl⟩

/-- A record put into the map is among its records. -/
theorem mem_insertSegment (g : Segment) (m : List Segment) (h : Segment) : h ∈ insertSegment g m ↔ h = g ∨ h ∈ m := by
  induction m with
  | nil => simp [insertSegment]
  | cons x xs ih =>
    unfold insertSegment
    split
    · simp
    · simp only [List.mem_cons, ih]; tauto

/-- A record put into the map stands there beside the old ones. -/
theorem insertSegment_perm (g : Segment) (m : List Segment) : (insertSegment g m).Perm (g :: m) := by
  induction m with
  | nil => exact List.Perm.refl _
  | cons x xs ih =>
    unfold insertSegment
    split
    · exact List.Perm.refl _
    · exact (List.Perm.cons x ih).trans (List.Perm.swap g x xs)

/-- A creation moves blocks from the head of the free list into the new record: none is lost or doubled (R2). -/
theorem createSegment_partitioned (s : State) (id : Byte) (st : SegState) (n : Nat) (ms : List Mark) (k : Nat) (o : Origin)
    (h : s.pool.partitioned) : (s.createSegment id st n ms k o).pool.partitioned := by
  have e : (s.pool.free.drop (blocksFor n) ++ (insertSegment ⟨id, st, n, 0, s.pool.free.take (blocksFor n), ms, k, false, o⟩
      s.pool.map).flatMap (fun g => g.blocks)).Perm (s.pool.free ++ s.pool.map.flatMap (fun g => g.blocks)) := by
    refine (List.Perm.append_left _ (List.Perm.flatMap_right _ (insertSegment_perm _ _))).trans ?_
    rw [List.flatMap_cons, ← List.append_assoc]
    refine List.Perm.append_right _ ?_
    exact List.perm_append_comm.trans (by rw [List.take_append_drop])
  exact e.trans h

/-- A freeing moves the blocks of the record under this id back: none is lost or doubled (R13). -/
theorem freeSegment_partitioned (s : State) (g : Segment) (b : Bool) (x : Segment) (hx : s.segment? g.id = some x)
    (hb : x.blocks = g.blocks) (h : s.pool.partitioned) : (s.freeSegment g b).pool.partitioned := by
  have key : ∀ m : List Segment, m.find? (fun y => y.id = g.id) = some x →
      (g.blocks ++ (m.eraseP (fun y => y.id = g.id)).flatMap (fun y => y.blocks)).Perm (m.flatMap (fun y => y.blocks)) := by
    intro m
    induction m with
    | nil => simp
    | cons y ys ih =>
      intro hf
      by_cases hy : y.id = g.id
      · simp only [List.find?_cons, hy, decide_true] at hf
        have hyx : y = x := by simpa using hf
        subst hyx
        simp [hy, List.flatMap_cons, hb]
      · simp only [List.find?_cons, hy, decide_false] at hf
        rw [List.eraseP_cons_of_neg (by simpa using hy), List.flatMap_cons, List.flatMap_cons]
        refine (List.perm_append_comm_assoc _ _ _).trans ?_
        exact List.Perm.append_left _ (ih hf)
  have e : ((s.pool.free ++ g.blocks) ++ (s.pool.map.eraseP (fun y => y.id = g.id)).flatMap (fun y => y.blocks)).Perm
      (s.pool.free ++ s.pool.map.flatMap (fun y => y.blocks)) := by
    rw [List.append_assoc]
    exact List.Perm.append_left _ (key _ hx)
  have hp : (s.freeSegment g b).pool.free = s.pool.free ++ g.blocks ∧
      (s.freeSegment g b).pool.map = s.pool.map.eraseP (fun y => y.id = g.id) := by
    unfold State.freeSegment; cases b <;> simp [State.notify]
  unfold Pool.partitioned
  rw [hp.1, hp.2]
  exact e.trans h

end Sys2Proof.Machine
end

