-- ==== Sys2Proof/Laws/Resets.lean ====
section
/-!
SUPPORT. What a reset and a held part leave: one lemma per field, and that every volatile field is at its reset value.
-/

namespace Sys2Proof.Machine

variable (s : State)

/-! ### takeReset -/

@[simp] theorem State.takeReset_powered (k : Cause) (b : BitVec 2) :
    (s.takeReset k b).powered = s.powered := by simp only [State.takeReset, State.reset]
@[simp] theorem State.takeReset_resetnLow (k : Cause) (b : BitVec 2) :
    (s.takeReset k b).resetnLow = s.resetnLow := by simp only [State.takeReset, State.reset]
@[simp] theorem State.takeReset_pool (k : Cause) (b : BitVec 2) :
    (s.takeReset k b).pool = .reset := by simp only [State.takeReset, State.reset]
@[simp] theorem State.takeReset_channels (k : Cause) (b : BitVec 2) :
    (s.takeReset k b).channels = #v[.reset 0, .reset 1, .reset 2, .reset 3] := by simp only [State.takeReset, State.reset]
@[simp] theorem State.takeReset_generators (k : Cause) (b : BitVec 2) :
    (s.takeReset k b).generators = Vector.replicate 4 .reset := by simp only [State.takeReset, State.reset]
@[simp] theorem State.takeReset_deliveries (k : Cause) (b : BitVec 2) :
    (s.takeReset k b).deliveries = [] := by simp only [State.takeReset, State.reset]
@[simp] theorem State.takeReset_trig (k : Cause) (b : BitVec 2) :
    (s.takeReset k b).trig = .reset := by simp only [State.takeReset, State.reset]
@[simp] theorem State.takeReset_jobs (k : Cause) (b : BitVec 2) :
    (s.takeReset k b).jobs = [] := by simp only [State.takeReset, State.reset]
@[simp] theorem State.takeReset_table (k : Cause) (b : BitVec 2) :
    (s.takeReset k b).table = ⟨[], []⟩ := by simp only [State.takeReset, State.reset]
@[simp] theorem State.takeReset_notices (k : Cause) (b : BitVec 2) :
    (s.takeReset k b).notices = .reset := by simp only [State.takeReset, State.reset]
@[simp] theorem State.takeReset_pending (k : Cause) (b : BitVec 2) :
    (s.takeReset k b).pending = s.pending := by simp only [State.takeReset, State.reset]
@[simp] theorem State.takeReset_store (k : Cause) (b : BitVec 2) :
    (s.takeReset k b).store = s.store.afterReset k := by simp only [State.takeReset]
@[simp] theorem State.takeReset_startup (k : Cause) (b : BitVec 2) :
    (s.takeReset k b).startup = .reset k := by simp only [State.takeReset]
@[simp] theorem State.takeReset_link (k : Cause) (b : BitVec 2) :
    (s.takeReset k b).link = .reset b := by simp only [State.takeReset]

/-! ### hold -/

@[simp] theorem State.hold_powered : s.hold.powered = s.powered := by simp only [State.hold, State.reset]
@[simp] theorem State.hold_resetnLow : s.hold.resetnLow = s.resetnLow := by simp only [State.hold, State.reset]
@[simp] theorem State.hold_pool : s.hold.pool = .reset := by simp only [State.hold, State.reset]
@[simp] theorem State.hold_channels : s.hold.channels = #v[.reset 0, .reset 1, .reset 2, .reset 3] := by simp only [State.hold, State.reset]
@[simp] theorem State.hold_generators : s.hold.generators = Vector.replicate 4 .reset := by simp only [State.hold, State.reset]
@[simp] theorem State.hold_deliveries : s.hold.deliveries = [] := by simp only [State.hold, State.reset]
@[simp] theorem State.hold_trig : s.hold.trig = .reset := by simp only [State.hold, State.reset]
@[simp] theorem State.hold_jobs : s.hold.jobs = [] := by simp only [State.hold, State.reset]
@[simp] theorem State.hold_table : s.hold.table = ⟨[], []⟩ := by simp only [State.hold, State.reset]
@[simp] theorem State.hold_notices : s.hold.notices = .reset := by simp only [State.hold, State.reset]
@[simp] theorem State.hold_pending : s.hold.pending = s.pending := by simp only [State.hold, State.reset]
@[simp] theorem State.hold_store : s.hold.store = s.store := by simp only [State.hold]
@[simp] theorem State.hold_startup : s.hold.startup = .reset s.startup.cause := by simp only [State.hold]
@[simp] theorem State.hold_link : s.hold.link = .reset s.link.straps := by simp only [State.hold]

/-! ### The store at a reset -/

@[simp] theorem Store.afterReset_pin (x : Store) : x.afterReset .pin = x := rfl
@[simp] theorem Store.afterReset_soft (x : Store) : x.afterReset .soft = x := rfl
@[simp] theorem Store.afterReset_plan (x : Store) (k : Cause) : (x.afterReset k).plan = x.plan := by cases k <;> simp only [Store.afterReset]

/-- POWER_ON clears a slot's freeze flag and touches nothing else of it. -/
theorem Store.afterReset_powerOn_slot (x : Store) (n : Fin 32) :
    (x.afterReset .powerOn).slots[n] = { x.slots[n] with freeze := false } := by
  simp only [Store.afterReset, Fin.getElem_fin, Vector.getElem_ofFn]

/-! ### Reset values -/

/-- Fields that `atReset` fixes, all at the values of the model's reset. -/
theorem State.atReset_of_fields {t : State} (h1 : t.pool = .reset)
    (h2 : t.channels = #v[.reset 0, .reset 1, .reset 2, .reset 3]) (h3 : t.generators = Vector.replicate 4 .reset)
    (h4 : t.deliveries = []) (h5 : t.trig = .reset) (h6 : t.jobs = []) (k : Cause) (h7 : t.startup = .reset k)
    (b : BitVec 2) (h8 : t.link = .reset b) (h9 : t.table = ⟨[], []⟩) (h10 : t.notices = .reset) : t.atReset := by
  unfold State.atReset
  rw [h1, h4, h6, h9]
  refine ⟨?_, ?_, ?_, ?_, rfl, ?_, ?_, rfl, ⟨k, ?_⟩, ?_, rfl, ?_⟩
  · simp only [Pool.reset]
  · simp only [Pool.reset, Config.poolBlocks]
  · intro c
    simp only [State.channel, h2]
    fin_cases c <;> rfl
  · intro g
    simp only [State.generator, h3, Fin.getElem_fin, Vector.getElem_replicate]; rfl
  · rw [h5]
    refine ⟨rfl, rfl, rfl, rfl, rfl, rfl, fun n => ?_⟩
    simp only [TriggerUnit.reset, Fin.getElem_fin, Vector.getElem_replicate]
  · intro c
    simp only [State.trigger, h5, TriggerUnit.reset, Fin.getElem_fin, Vector.getElem_replicate]; rfl
  · rw [h7, Startup.reset]
  · rw [h8]; exact ⟨rfl, rfl, rfl, rfl, rfl⟩
  · rw [h10, Notices.reset]

theorem State.atReset_takeReset (k : Cause) (b : BitVec 2) : (s.takeReset k b).atReset :=
  State.atReset_of_fields (by simp) (by simp) (by simp) (by simp) (by simp) (by simp) k (by simp) b (by simp) (by simp)
    (by simp)

theorem State.atReset_hold : s.hold.atReset :=
  State.atReset_of_fields (by simp) (by simp) (by simp) (by simp) (by simp) (by simp) _ (State.hold_startup s) _
    (State.hold_link s) (by simp) (by simp)

/-- Nothing waits for the transmitter right after a reset. -/
theorem arbitrate_atReset {t : State} (h : t.atReset) : t.arbitrate = t := by
  obtain ⟨_, _, _, _, _, _, _, _, _, ⟨_, _, _, h1, _⟩, h2, h3⟩ := h
  simp [State.arbitrate, h1, h2, h3, Notices.offer]

end Sys2Proof.Machine
end

