-- ==== Sys2Proof/Laws/Starting.lean ====
section
/-!
SUPPORT. The starts of a START request: what its course does, one event after another, and the empty course.
-/

namespace Sys2Proof.Machine

@[simp] theorem State.startAll_fst (cs : List (Fin 4)) (s : State) :
    (State.startAll cs s).1 = forEach State.startChannel cs s := by
  induction cs generalizing s with
  | nil => rfl
  | cons c cs ih => exact ih (State.startChannel c s)

@[simp] theorem State.startAll_channels (cs : List (Fin 4)) (s : State) : (State.startAll cs s).2.map (·.1) = cs := by
  induction cs generalizing s with
  | nil => rfl
  | cons c cs ih => exact congrArg (List.cons c) (ih _)

@[simp] theorem State.startCourse_nil (left : List (Fin 4)) (s : State) :
    State.startCourse [] left s = State.startAll left s := rfl

@[simp] theorem State.startCourse_over (course : List StartStep) (s : State) : State.startCourse course [] s = (s, []) := by
  cases course <;> rfl

/-- An event of the part between two starts. -/
theorem State.startCourse_between {p : StartStep} (h : ∀ c, p ≠ .channel c) (course : List StartStep) {left : List (Fin 4)}
    (hl : left ≠ []) (s : State) :
    State.startCourse (p :: course) left s = State.startCourse course left (betweenStarts p s) := by
  cases left with
  | nil => exact absurd rfl hl
  | cons c left =>
    cases p with
    | channel c => exact absurd rfl (h c)
    | tick | tickDelivery | sample | loadCompletion => rfl

/-- The start of a channel that has not started yet. -/
theorem State.startCourse_start {c : Fin 4} {left : List (Fin 4)} (hc : c ∈ left) (course : List StartStep) (s : State) :
    State.startCourse (.channel c :: course) left s =
      let t := State.startChannel c s
      let r := State.startCourse course (left.erase c) t
      (r.1, (c, (t.channel c).state) :: r.2) := by
  cases left with
  | nil => simp at hc
  | cons d left => simp [State.startCourse, hc]

/-- A start of a channel that the START does not name, or that has started, is none. -/
theorem State.startCourse_skip {c : Fin 4} {left : List (Fin 4)} (hc : c ∉ left) (course : List StartStep) (s : State) :
    State.startCourse (.channel c :: course) left s = State.startCourse course left s := by
  cases left with
  | nil => simp
  | cons d left => simp [State.startCourse, hc]

/-- What falls between two starts is what its command does. -/
theorem exec_betweenStarts (s : State) :
    (∀ m, exec (.tick m) s = .next (betweenStarts (.tick m) s)) ∧
    (∀ c g, exec (.tickDelivery c g) s = .next (betweenStarts (.tickDelivery c g) s)) ∧
    (∀ l o, exec (.sample l o) s = .next (betweenStarts (.sample l o) s)) ∧
    (∀ cells, exec (.loadCompletion cells) s = .next (betweenStarts (.loadCompletion cells) s)) :=
  ⟨fun _ => rfl, fun _ _ => rfl, fun _ _ => rfl, fun _ => rfl⟩

end Sys2Proof.Machine
end

