-- ==== Sys2Proof/Laws/Taking.lean ====
section
/-!
SUPPORT. A request frame taken while the receiver hunts: what the event is, from what the owner answers. Owners act on
the state as the table has it after the entry is made; `withFront` says that the operations behind the Request Table do
not see the link and the table.
-/

namespace Sys2Proof.Machine

/-- `s` with another link and another Request Table. -/
def State.withFront (s : State) (l : Link) (t : Table) : State := { s with link := l, table := t }

/-- An operation that neither reads nor changes the link and the Request Table. -/
def BehindTheTable (f : State → State) : Prop := ∀ s l t, f (s.withFront l t) = (f s).withFront l t

section Fields

variable (s : State) (l : Link) (t : Table)

@[simp] theorem State.withFront_link : (s.withFront l t).link = l := rfl
@[simp] theorem State.withFront_table : (s.withFront l t).table = t := rfl
@[simp] theorem State.withFront_powered : (s.withFront l t).powered = s.powered := rfl
@[simp] theorem State.withFront_resetnLow : (s.withFront l t).resetnLow = s.resetnLow := rfl
@[simp] theorem State.withFront_pool : (s.withFront l t).pool = s.pool := rfl
@[simp] theorem State.withFront_channels : (s.withFront l t).channels = s.channels := rfl
@[simp] theorem State.withFront_generators : (s.withFront l t).generators = s.generators := rfl
@[simp] theorem State.withFront_deliveries : (s.withFront l t).deliveries = s.deliveries := rfl
@[simp] theorem State.withFront_trig : (s.withFront l t).trig = s.trig := rfl
@[simp] theorem State.withFront_store : (s.withFront l t).store = s.store := rfl
@[simp] theorem State.withFront_jobs : (s.withFront l t).jobs = s.jobs := rfl
@[simp] theorem State.withFront_startup : (s.withFront l t).startup = s.startup := rfl
@[simp] theorem State.withFront_notices : (s.withFront l t).notices = s.notices := rfl
@[simp] theorem State.withFront_pending : (s.withFront l t).pending = s.pending := rfl
@[simp] theorem State.withFront_channel (c : Fin 4) : (s.withFront l t).channel c = s.channel c := rfl
@[simp] theorem State.withFront_generator (g : Fin 4) : (s.withFront l t).generator g = s.generator g := rfl
@[simp] theorem State.withFront_trigger (k : Fin 8) : (s.withFront l t).trigger k = s.trigger k := rfl
@[simp] theorem State.withFront_slot (n : Fin 32) : (s.withFront l t).slot n = s.slot n := rfl
@[simp] theorem State.withFront_segment? (id : Byte) : (s.withFront l t).segment? id = s.segment? id := rfl
@[simp] theorem State.withFront_self : s.withFront s.link s.table = s := rfl
@[simp] theorem State.withFront_withFront (l' : Link) (t' : Table) :
    (s.withFront l t).withFront l' t' = s.withFront l' t' := rfl

@[simp] theorem State.withFront_modChannel (c : Fin 4) (f : Channel → Channel) :
    (s.withFront l t).modChannel c f = (s.modChannel c f).withFront l t := rfl
@[simp] theorem State.withFront_setChannel (c : Fin 4) (x : Channel) :
    (s.withFront l t).setChannel c x = (s.setChannel c x).withFront l t := rfl
@[simp] theorem State.withFront_setTrigger (k : Fin 8) (x : Trigger) :
    (s.withFront l t).setTrigger k x = (s.setTrigger k x).withFront l t := rfl
@[simp] theorem State.withFront_modGenerator (g : Fin 4) (f : Generator → Generator) :
    (s.withFront l t).modGenerator g f = (s.modGenerator g f).withFront l t := rfl
@[simp] theorem State.withFront_modSegment (id : Byte) (f : Segment → Segment) :
    (s.withFront l t).modSegment id f = (s.modSegment id f).withFront l t := rfl
@[simp] theorem State.withFront_takeRef (id : Byte) : (s.withFront l t).takeRef id = (s.takeRef id).withFront l t := rfl
@[simp] theorem State.withFront_setSlot (n : Fin 32) (x : Slot) :
    (s.withFront l t).setSlot n x = (s.setSlot n x).withFront l t := rfl
@[simp] theorem State.withFront_setPlan (p : PlanArea) : (s.withFront l t).setPlan p = (s.setPlan p).withFront l t := rfl
@[simp] theorem State.withFront_modStartup (f : Startup → Startup) :
    (s.withFront l t).modStartup f = (s.modStartup f).withFront l t := rfl
@[simp] theorem State.withFront_notify (k : NoticeKind) (src : Source) (d : List Byte) :
    (s.withFront l t).notify k src d = (s.notify k src d).withFront l t := rfl
@[simp] theorem State.withFront_createSegment (id : Byte) (st : SegState) (n : Nat) (ms : List Mark) (k : Nat) (o : Origin) :
    (s.withFront l t).createSegment id st n ms k o = (s.createSegment id st n ms k o).withFront l t := rfl
@[simp] theorem State.withFront_freeSegment (g : Segment) (b : Bool) :
    (s.withFront l t).freeSegment g b = (s.freeSegment g b).withFront l t := by cases b <;> rfl

@[simp] theorem State.withFront_releaseRef (id : Byte) :
    (s.withFront l t).releaseRef id = (s.releaseRef id).withFront l t := by
  unfold State.releaseRef
  simp only [State.withFront_segment?]
  split
  · rfl
  · split <;> simp

end Fields

/-- What every single run leaves behind the table, the whole run does. -/
theorem forEach_behind {α : Type} {f : α → State → State} (h : ∀ x, BehindTheTable (f x)) (xs : List α) :
    BehindTheTable (forEach f xs) := by
  induction xs with
  | nil => exact fun _ _ _ => rfl
  | cons x xs ih => exact fun s l t => by simp only [forEach, h x s l t, ih _ l t]

section Operations

variable (s : State) (l : Link) (t : Table)

@[simp] theorem State.withFront_playable (id : Byte) : (s.withFront l t).playable id = s.playable id := rfl

@[simp] theorem State.withFront_enterStarted (c : Fin 4) (e : Entry) (rest : List Entry) (st : SegState) :
    (s.withFront l t).enterStarted c e rest st = (s.enterStarted c e rest st).withFront l t := by cases st <;> rfl

@[simp] theorem State.withFront_dropHead (c : Fin 4) (e : Entry) (rest : List Entry) :
    (s.withFront l t).dropHead c e rest = (s.dropHead c e rest).withFront l t := by
  simp only [State.dropHead, State.withFront_modChannel, State.withFront_releaseRef, State.withFront_notify]

theorem evalQueue_behind (c : Fin 4) (q : List Entry) : BehindTheTable (State.evalQueue c q) := by
  induction q with
  | nil => exact fun _ _ _ => rfl
  | cons e rest ih =>
    intro s l t
    cases hs : e.start with
    | onTrigger k => simp only [State.evalQueue, hs]; rfl
    | immediate =>
      simp only [State.evalQueue, hs, State.withFront_modChannel, State.withFront_playable]
      cases hp : (s.modChannel c fun ch => { ch with activeGen := e.generator.getD ch.defaultGen }).playable e.segment with
      | some st => simp only [State.withFront_enterStarted]
      | none => simp only [State.withFront_dropHead]; exact ih _ l t

@[simp] theorem State.withFront_evalQueue (c : Fin 4) (q : List Entry) :
    State.evalQueue c q (s.withFront l t) = (State.evalQueue c q s).withFront l t := evalQueue_behind c q s l t

@[simp] theorem State.withFront_evaluateHead (c : Fin 4) :
    (s.withFront l t).evaluateHead c = (s.evaluateHead c).withFront l t := State.withFront_evalQueue s l t c _

@[simp] theorem State.withFront_skipHead (c : Fin 4) (e : Entry) (rest : List Entry) :
    (s.withFront l t).skipHead c e rest = (s.skipHead c e rest).withFront l t := by
  simp only [State.skipHead, State.withFront_dropHead, State.withFront_evalQueue]

@[simp] theorem State.withFront_meetStart (c : Fin 4) (e : Entry) (rest : List Entry) :
    (s.withFront l t).meetStart c e rest = (s.meetStart c e rest).withFront l t := by
  cases h : s.playable e.segment <;> simp [State.meetStart, h]

theorem readyReport_behind (id : Byte) (c : Fin 4) : BehindTheTable (State.readyReport id c) := by
  intro s l t
  cases hs : (s.channel c).state <;> cases hq : (s.channel c).queue <;> simp only [State.readyReport, State.withFront_channel, hs, hq]
  rename_i e _
  by_cases he : e.segment = id <;> simp [he]

theorem failedReport_behind (id : Byte) (c : Fin 4) : BehindTheTable (State.failedReport id c) := by
  intro s l t
  cases hs : (s.channel c).state <;> cases hq : (s.channel c).queue <;> simp only [State.failedReport, State.withFront_channel, hs, hq]
  rename_i e _
  by_cases he : e.segment = id <;> simp [he]

@[simp] theorem State.withFront_reportReady (id : Byte) :
    (s.withFront l t).reportReady id = (s.reportReady id).withFront l t := forEach_behind (readyReport_behind id) _ s l t

@[simp] theorem State.withFront_reportFailed (id : Byte) :
    (s.withFront l t).reportFailed id = (s.reportFailed id).withFront l t := forEach_behind (failedReport_behind id) _ s l t

theorem startChannel_behind (c : Fin 4) : BehindTheTable (State.startChannel c) :=
  fun s l t => State.withFront_evaluateHead (s.modChannel c fun ch => { ch with counter := 0, emittedAt := [] }) l t c

@[simp] theorem State.withFront_enterStopped (c : Fin 4) :
    (s.withFront l t).enterStopped c = (s.enterStopped c).withFront l t := rfl

@[simp] theorem State.withFront_removeStarted (c : Fin 4) :
    (s.withFront l t).removeStarted c = (s.removeStarted c).withFront l t := by
  cases hq : (s.channel c).queue <;> cases hh : (s.channel c).headStarted <;> simp [State.removeStarted, hq, hh]

theorem stopNow_behind (c : Fin 4) : BehindTheTable (State.stopNow c) := by
  intro s l t
  cases hr : (s.channel c).isRunning <;> simp [State.stopNow, hr]

theorem stopAtPassEnd_behind (c : Fin 4) : BehindTheTable (State.stopAtPassEnd c) := by
  intro s l t
  by_cases hp : (s.channel c).state = .playing
  · simp [State.stopAtPassEnd, hp]
  · simp [State.stopAtPassEnd, hp, stopNow_behind c s l t]

@[simp] theorem State.withFront_appendEntry (c : Fin 4) (e : Entry) :
    (s.withFront l t).appendEntry c e = (s.appendEntry c e).withFront l t := by
  by_cases hd : (s.channel c).state = .drained <;> simp [State.appendEntry, hd]

theorem releaseAll_behind (es : List Entry) : BehindTheTable (forEach (fun (e : Entry) s => s.releaseRef e.segment) es) :=
  forEach_behind (fun e s l t => State.withFront_releaseRef s l t e.segment) es

@[simp] theorem State.withFront_flush (c : Fin 4) : (s.withFront l t).flush c = (s.flush c).withFront l t := by
  by_cases hw : (s.channel c).state = .waiting <;> simp [State.flush, hw, releaseAll_behind _ _ l t]

@[simp] theorem State.withFront_holdBack (ctx : TickContext) (c : Fin 4) :
    (s.withFront l t).holdBack ctx c = (s.holdBack ctx c).withFront l t := by
  cases ctx with
  | none => rfl
  | some x =>
    obtain ⟨g, n⟩ := x
    by_cases h : (s.channel c).headStarted ∧ (s.channel c).activeGen = g <;> simp [State.holdBack, h]

theorem takeFiring_behind (k : Fin 8) (ctx : TickContext) (c : Fin 4) : BehindTheTable (State.takeFiring k ctx c) := by
  intro s l t
  by_cases hw : (s.channel c).waitsOn = some k
  · cases hq : (s.channel c).queue <;> simp [State.takeFiring, hw, hq]
  · by_cases hu : (s.channel c).untilOf = some k <;> simp [State.takeFiring, hw, hu]

@[simp] theorem State.withFront_fireTrigger (k : Fin 8) (ctx : TickContext) :
    State.fireTrigger k ctx (s.withFront l t) = (State.fireTrigger k ctx s).withFront l t := by
  cases hn : (s.trigger k).notify <;>
    simp [State.fireTrigger, hn, forEach_behind (takeFiring_behind k ctx) allChannels _ l t]

@[simp] theorem State.withFront_announceFor (j : Job) :
    (s.withFront l t).announceFor j = (s.announceFor j).withFront l t := by
  cases hq : j.isQueued
  · simp [State.announceFor, hq]
  · cases hw : j.work <;> simp only [State.announceFor, hq, State.announce, hw] <;> rfl

/-- A change of the job list stays behind the table. -/
theorem State.withFront_jobs_update (js : List Job) :
    { s.withFront l t with jobs := js } = ({ s with jobs := js } : State).withFront l t := rfl

@[simp] theorem State.withFront_select : (s.withFront l t).select = s.select.withFront l t := by
  cases ha : s.jobs.any Job.isActive
  · cases hf : s.jobs.find? (picks s.jobs) with
    | none => simp [State.select, ha, hf]
    | some j =>
      simp only [State.select, State.withFront_jobs, ha, hf, State.withFront_announceFor]
      rfl
  · simp [State.select, ha]

@[simp] theorem State.withFront_accept (w : Work) (o : JobOrigin) (n : Nat) :
    (s.withFront l t).accept w o n = (s.accept w o n).withFront l t :=
  State.withFront_select { s with jobs := s.jobs ++ [newJob w o n] } l t

@[simp] theorem State.withFront_acceptLoad (n : Fin 32) (id : Byte) (o : JobOrigin) (k : Nat) :
    (s.withFront l t).acceptLoad n id o k = (s.acceptLoad n id o k).withFront l t := by
  cases h : suspends n s.jobs
  · simp [State.acceptLoad, h]
  · simp only [State.acceptLoad, State.withFront_jobs, h]; rfl

@[simp] theorem State.withFront_failLoading (id : Byte) :
    (s.withFront l t).failLoading id = (s.failLoading id).withFront l t := by
  cases h : s.segment? id with
  | none => simp [State.failLoading, h]
  | some g => by_cases hr : g.refs - 1 = 0 <;> simp [State.failLoading, h, hr]

@[simp] theorem State.withFront_cancelEffect (w : Work) :
    (s.withFront l t).cancelEffect w = (s.cancelEffect w).withFront l t := by
  cases w <;> simp [State.cancelEffect]

@[simp] theorem State.withFront_takeOut (tag : Byte) (j : Job) :
    (s.withFront l t).takeOut tag j = (s.takeOut tag j).withFront l t := by
  cases h : j.isActive
  · simp only [State.takeOut, State.withFront_cancelEffect, h]; rfl
  · simp only [State.takeOut, State.withFront_cancelEffect, h]
    exact State.withFront_select { s.cancelEffect j.work with jobs := (s.cancelEffect j.work).jobs.eraseP (Job.isOf tag) } l t

@[simp] theorem State.withFront_stopPlanChannels :
    (s.withFront l t).stopPlanChannels = s.stopPlanChannels.withFront l t :=
  forEach_behind stopNow_behind s.startup.startedChannels s l t

end Operations

/-! ### The event of a request frame -/

/-- A frame that arrives while the receiver hunts is one event: its end at the receiver, its dispatch, the arbiter's choice. -/
theorem receive_listening {s : State} (h : s.listening = true) (content : List Byte) (check : Half) (act : State → State) :
    s.receive content check act = (act s.endFrame).arbitrate := by
  simp only [State.listening, Bool.and_eq_true, Bool.not_eq_true', decide_eq_true_eq] at h
  simp [State.receive, h.2, Receiver.begins, State.lineEvent, h.1.2, State.event, h.1.1]

/-- The state a good request frame's checks see. -/
theorem endFrame_countGood (s : State) : s.endFrame.countGood = s.withFront s.link.tookFrame s.table := rfl

theorem genericCheck_admits {s : State} {tag : Byte} {exempt : Bool} (h : s.admits tag exempt = true) (l : Link) :
    genericCheck tag exempt (s.withFront l s.table) = none := by
  simp only [State.admits, Bool.and_eq_true, Bool.not_eq_true', decide_eq_true_eq, Bool.or_eq_true] at h
  have h2 : ¬Config.maxEntries ≤ s.table.entries.length := by omega
  simp only [genericCheck, State.withFront_table, h.1.1, State.isStarting, State.withFront_startup]
  rcases h.2 with h3 | h3 <;> simp [h2, h3]

/-- A taken request that its owner answers at once, with `u` the state before it with the owner's effects made (R167, R168). -/
theorem exec_answered {α : Type} {i : Instr} {tag code : Byte} {exempt : Bool} {f : α} {owner : α → State → Owned}
    {s u : State} {st : Status} {data : List Byte} (hd : dispatch i = onRequest tag code exempt (.fields f) owner)
    (hl : s.listening = true) (ha : s.admits tag exempt = true)
    (ho : ∀ l t, owner f (s.withFront l t) = .reply (u.withFront l t) st data)
    (hul : u.link = s.link) (hut : u.table = s.table) : s.receiveFrame i = u.answered tag code st data := by
  rw [State.receiveFrame, receive_listening hl, hd]
  have he : s.table.entries.any (Pending.holds tag) = false := by
    simp only [State.admits, Bool.and_eq_true, Bool.not_eq_true'] at ha
    exact ha.1.1
  have e : (s.withFront s.link.tookFrame s.table).openEntry tag code =
      s.withFront s.link.tookFrame { s.table with entries := s.table.entries ++ [⟨tag, code, .awaiting, false⟩] } := rfl
  simp only [onRequest, endFrame_countGood, takeRequest, genericCheck_admits ha, e, ho, placeOwned, State.placeReply,
    State.answered, hul, hut, State.withFront_table]
  rw [modifyFirst_append_new _ he (by simp [Pending.holds])]
  rfl

/-- A taken request that becomes a job: its entry is AWAITING and nothing is placed (R169). -/
theorem exec_awaited {α : Type} {i : Instr} {tag code : Byte} {exempt : Bool} {f : α} {owner : α → State → Owned}
    {s u : State} (hd : dispatch i = onRequest tag code exempt (.fields f) owner)
    (hl : s.listening = true) (ha : s.admits tag exempt = true)
    (ho : ∀ l t, owner f (s.withFront l t) = .deferred (u.withFront l t))
    (hul : u.link = s.link) (hut : u.table = s.table) : s.receiveFrame i = u.awaited tag code := by
  rw [State.receiveFrame, receive_listening hl, hd]
  have e : (s.withFront s.link.tookFrame s.table).openEntry tag code =
      s.withFront s.link.tookFrame { s.table with entries := s.table.entries ++ [⟨tag, code, .awaiting, false⟩] } := rfl
  simp only [onRequest, endFrame_countGood, takeRequest, genericCheck_admits ha, e, ho, placeOwned, State.awaited, hul, hut]
  rfl

end Sys2Proof.Machine
end

