-- ==== Sys2Proof/Laws/Ticks.lean ====
section
/-!
SUPPORT. What a taken delivery can do.
-/

namespace Sys2Proof.Machine

/-- What taking a delivery does: its pulses end and a head that lets it pass counts it; then, where the channel emits, the sample
goes out (R35, R37, R42, R61). -/
theorem State.takeTick_cases (s : State) (d : Delivery) :
    let t := s.modChannel d.chan (fun ch =>
      { ch.letPass d.gen with m0 := ch.m0.endPulse d.gen, m1 := ch.m1.endPulse d.gen })
    ((s.channel d.chan).emitsAt d = true ∧ s.takeTick d = t.emit d) ∨
    ((s.channel d.chan).emitsAt d = false ∧ s.takeTick d = t) := by
  cases h : (s.channel d.chan).emitsAt d <;> simp [State.takeTick, h]

/-- No channel emits twice at one instant. -/
theorem Channel.emitsAt_again {d : Delivery} {ch : Channel} (h : d.instant ∈ ch.emittedAt) : ch.emitsAt d = false := by
  simp [Channel.emitsAt, h]

/-- Where a channel emits, it is PLAYING on the delivery's generator. -/
theorem Channel.playing_of_emitsAt {d : Delivery} {ch : Channel} (h : ch.emitsAt d = true) :
    ch.state = .playing ∧ ch.activeGen = d.gen ∧ d.instant ∉ ch.emittedAt ∧ ch.holds d.gen = false := by
  simpa [Channel.emitsAt, and_assoc] using h

/-- Where a channel emits, it keeps the instant, and every instant that it has emitted at and a delivery to it still has. -/
theorem State.mem_emittedWith {s : State} {d : Delivery} {i : Nat} : i ∈ s.emittedWith d ↔
    i = d.instant ∨ (i ∈ (s.channel d.chan).emittedAt ∧
      (d.instant < i ∨ ∃ x ∈ s.deliveries, x.chan = d.chan ∧ x.instant = i)) := by
  simp [State.emittedWith]

/-- A tick is of the instant of the tick made last or of the next one. -/
theorem State.instantOf_cases (s : State) (m : TickMade) :
    s.instantOf m = s.lastInstant ∨ s.instantOf m = s.lastInstant + 1 := by
  unfold State.instantOf; split <;> simp

/-- A generator makes at most one tick at an instant. -/
theorem State.tickedAt_lt_instantOf (s : State) (m : TickMade) : (s.generator m.generator).tickedAt < s.instantOf m := by
  have h : (s.generator m.generator).tickedAt ≤ s.lastInstant := by
    obtain ⟨g, b⟩ := m
    fin_cases g <;> simp [State.lastInstant, allChannels]
  unfold State.instantOf
  split <;> omega

end Sys2Proof.Machine
end

