-- ==== Sys2Proof/Tests/Slice0.lean ====
section
/-!
SUPPORT. Tests: frames written byte by byte from the spec, an ill-formed term for each check of WellFormed, single steps with the
values of the spec's worked examples, and for each statement with hypotheses a state that meets them.
-/

namespace Sys2Proof.Tests

-- The evaluations run one after another, so that their memory is not asked for at once.
set_option Elab.async false

open Sys2Proof Sys2Proof.Machine

/-! ### States -/

/-- The state a command leaves. -/
def after (i : Instr) (s : State) : State :=
  match exec i s with
  | .next t => t
  | .fault _ => s
  | .refused _ => s

/-- The answer in transmission, which a request finds free. -/
def answer (s : State) : Option (Status × List Byte) :=
  match s.link.tx with
  | .reply (.reply _ _ st data) _ => some (st, data)
  | .reply (.refusal _ _ st) _ => some (st, [])
  | _ => none

/-- Kind and source of the records of the Notice Queue. -/
def told (s : State) : List (NoticeKind × Source) := s.notices.records.map (fun r => (r.kind, r.source))

/-- A part that has started, with nothing in it. -/
def ready : State := { State.reset with startup := { Startup.reset .pin with phase := .ready } }

/-- The transmitter in a notice. -/
def busy (s : State) : State := { s with link := { s.link with tx := .notice 0 [] } }

/-- A segment in these blocks. -/
def seg (id : Byte) (st : SegState) (length fill : Nat) (blocks : List Nat) (refs : Nat) (retiring : Bool := false) : Segment :=
  { id := id, state := st, length := length, fill := fill, blocks := blocks, marks := [], refs := refs, retiring := retiring
    origin := .host }

/-- A started part with these segments in its map. -/
def holding (gs : List Segment) : State :=
  { ready with pool := { ready.pool with
      free := (List.range 512).filter (fun b => !(gs.flatMap (fun g => g.blocks)).contains b), map := gs } }

/-- An entry with repeat 1 that starts at once. -/
def entry (id : Byte) (started : Bool := false) : Entry :=
  { segment := id, repeats := 1, start := .immediate, untilTrig := none, endAction := .rest, generator := none, notify := true
    started := started, passes := 0, cursor := 0, released := false, stopPending := false }

/-- A channel in this state with this queue. -/
def player (st : ChanState) (q : List Entry) : Channel := { Channel.reset 0 with state := st, queue := q }

/-- A STORED slot with these samples. -/
def stored (xs : List Sample) : Slot :=
  { Slot.shipped with content := .stored, length := xs.length, check := checkValue xs.length xs [], data := xs }

/-- A job of a request. -/
def job (w : Work) (st : JobState) : Job :=
  { work := w, origin := .request 9 false, state := st, remaining := 1, suspensions := 0 }

/-- A state with these jobs, each under a pending entry. -/
def working (s : State) (js : List Job) : State :=
  { s with jobs := js, table := { s.table with entries := js.map (fun j => ⟨9, j.work.code, .awaiting, false⟩) } }

/-! ### Frames, written from R143 and the request catalogue -/

/-- CRC-16 with 1021h and FFFFh, not complemented, of the digits 1 to 9. -/
theorem test_crc16 : crc16 [0x31, 0x32, 0x33, 0x34, 0x35, 0x36, 0x37, 0x38, 0x39] = 0x29B1 := by decide +kernel

/-- CRC-32 with 04C11DB7h, least significant bit first, complemented, of the digits 1 to 9. -/
theorem test_crc32 : crc32 [0x31, 0x32, 0x33, 0x34, 0x35, 0x36, 0x37, 0x38, 0x39] = 0xCBF43926 := by decide +kernel

/-- The acknowledgement of notice 7: SYNC, LENGTH 2, KIND 54h, TAG 7, the check low byte first. -/
theorem test_ack_frame : (Instr.noticeAcknowledgement 7 []).content?.map frame = some [0xB7, 0x02, 0x54, 0x07, 0x60, 0x10] := by
  decide +kernel

/-- No table word has bits. -/
theorem test_no_table_word : ∀ n w, decodeTableWord n w = none := fun _ _ => rfl

/-- Pool: CREATE_SEGMENT id 3, length 100 with one mark at position 3: NONE on M0, fire T6. -/
theorem test_decode_create : decodeFrame [0x51, 30, 0x10, 3, 100, 0, 1, 3, 0, 0x00, 6] =
    some (.createSegment 30 (.fields ⟨3, 100, [⟨3, 0x00, 6⟩]⟩)) := by decide +kernel

/-- Pool: WRITE_SAMPLES id 3, offset 64, samples 1000 (03E8h) and 65535. -/
theorem test_decode_write : decodeFrame [0x51, 30, 0x11, 3, 64, 0, 0xE8, 0x03, 0xFF, 0xFF] =
    some (.writeSamples 30 (.fields ⟨3, 64, [1000, 65535]⟩)) := by decide +kernel

/-- Channels: ENQUEUE CH0, id 3, repeat 0, IMMEDIATE, until T4, no override, REST and notify. -/
theorem test_decode_enqueue : decodeFrame [0x51, 31, 0x21, 0, 3, 0, 0, 0x80, 4, 0xFF, 3] =
    some (.enqueue 31 (.fields ⟨0, 3, 0, 0x80, 4, 0xFF, 3⟩)) := by decide +kernel

/-- Channels: STOP AT_PASS_END of CH1 and CH3. -/
theorem test_decode_stop : decodeFrame [0x51, 31, 0x23, 0x0A, 1] = some (.stopAtPassEnd 31 0x0A) := by decide +kernel

/-- Rates: SET_RATE RG0, divider 2,400 (960h). -/
theorem test_decode_rate : decodeFrame [0x51, 32, 0x30, 0, 0x60, 0x09, 0, 0] = some (.setRate 32 (.fields ⟨0, 2400⟩)) := by
  decide +kernel

/-- Triggers: DEFINE_TRIGGER T4, CHANGE, mask IN2, edge RISE, prescale 1, notify no. -/
theorem test_decode_trigger : decodeFrame [0x51, 33, 0x41, 4, 1, 0x04, 0, 0, 1, 0] =
    some (.defineTrigger 33 (.fields ⟨4, 1, 0x04, 0, 0, 1, 0⟩)) := by decide +kernel

/-- Store: SAVE id 25 to S20, label AB. -/
theorem test_decode_save : decodeFrame [0x51, 60, 0x60, 20, 25, 0x41, 0x42] =
    some (.save 60 (.fields ⟨20, 25, [0x41, 0x42]⟩)) := by decide +kernel

/-- Store: SAVE_PLAN on PIN and SOFT with LOAD S1 as id 5 and START CH0. -/
theorem test_decode_plan : decodeFrame [0x51, 60, 0x65, 6, 2, 0x61, 1, 5, 0x22, 1] =
    some (.savePlan 60 (.fields ⟨6, 2, [.load ⟨1, 5⟩, .start 1], []⟩)) := by decide +kernel

/-- Part: GET_STORE without its first slot, SET_NOTICES with window 1 and all kinds. -/
theorem test_decode_part : decodeFrame [0x51, 40, 0x69] = some (.getStore 40 (.fields none)) ∧
    decodeFrame [0x51, 41, 0x78, 1, 0xFF, 0x01] = some (.setNotices 41 (.fields ⟨1, 0x1FF⟩)) := by decide +kernel

/-- A body of another length is malformed; a code outside the catalogue and an empty body are UNKNOWN_REQUEST. -/
theorem test_decode_others : decodeFrame [0x51, 1, 0x12] = some (.sealSegment 1 (.malformed [])) ∧
    decodeFrame [0x51, 1, 0x16, 5] = some (.unknownRequest 1 [0x16, 5]) ∧ decodeFrame [0x51, 1] = some (.unknownRequest 1 []) ∧
    decodeFrame [0x52, 1, 9] = some (.kindError 0x52 1 [9]) := by decide +kernel

/-! ### Ill-formed commands, one for each check -/

/-- Fields in a malformed body; a malformed body beyond LENGTH. -/
theorem test_refuses_malformed : (Instr.sealSegment 1 (.malformed [3])).wellFormed = false ∧
    (Instr.sealSegment 1 (.malformed (List.replicate 248 0))).wellFormed = false ∧
    (Instr.sealSegment 1 (.malformed [])).wellFormed = true := by decide +kernel

/-- 61 marks in one body, no sample, 121 samples, a label that no body carries. -/
theorem test_refuses_fields : (Instr.createSegment 1 (.fields ⟨1, 1, List.replicate 61 ⟨0, 0, 0⟩⟩)).wellFormed = false ∧
    (Instr.writeSamples 1 (.fields ⟨1, 0, []⟩)).wellFormed = false ∧
    (Instr.writeSamples 1 (.fields ⟨1, 0, List.replicate 121 0⟩)).wellFormed = false ∧
    (Instr.save 1 (.fields ⟨1, 1, List.replicate 246 0x41⟩)).wellFormed = false := by decide +kernel

/-- STOP_IMMEDIATE with mode AT_PASS_END; plan steps that do not agree with their count, or a known code in the rest. -/
theorem test_refuses_rows : (Instr.stopImmediate 1 (.fields ⟨1, 1⟩)).wellFormed = false ∧
    (Instr.savePlan 1 (.fields ⟨7, 2, [.run 1], []⟩)).wellFormed = false ∧
    (Instr.savePlan 1 (.fields ⟨7, 1, [.run 1], [9]⟩)).wellFormed = false ∧
    (Instr.savePlan 1 (.fields ⟨7, 2, [.run 1], [0x31, 1]⟩)).wellFormed = false := by decide +kernel

/-- A catalogue code as unknown, an acknowledgement beyond LENGTH, a good LENGTH as bad, a good check as bad, a request as another
kind, SYNC as a hunt byte. -/
theorem test_refuses_link : (Instr.unknownRequest 1 [0x7D]).wellFormed = false ∧
    (Instr.unknownRequest 1 (List.replicate 249 0)).wellFormed = false ∧
    (Instr.noticeAcknowledgement 1 (List.replicate 249 0)).wellFormed = false ∧ (Instr.lengthError 250).wellFormed = false ∧
    (Instr.checkError [0x54, 7] (frameCheck [0x54, 7])).wellFormed = false ∧ (Instr.checkError [0x54] 0).wellFormed = false ∧
    (Instr.kindError 0x51 1 []).wellFormed = false ∧ (Instr.kindError 0x52 1 (List.replicate 249 0)).wellFormed = false ∧
    (Instr.huntByte 0xB7).wellFormed = false := by decide +kernel

/-- Memory at reset is in its canonical form. -/
theorem test_reset_memory : Memory.wf State.reset.pool.mem = true := by decide

/-! ### Pool requests (worked examples of spec 01 and 11) -/

/-- Sequence 1: CREATE_SEGMENT id 3, length 100 takes blocks 0 and 1, leaving 510 (01FEh). -/
theorem test_create :
    let t := after (.createSegment 1 (.fields ⟨3, 100, []⟩)) ready
    t.segment? 3 = some (seg 3 .filling 100 0 [0, 1] 0) ∧ t.pool.free.head? = some 2 ∧ answer t = some (.ok, [2, 0xFE, 0x01]) := by
  decide +kernel

/-- Marks are stored by position, equal positions in the order given (R5). -/
theorem test_create_marks : ((after (.createSegment 1 (.fields ⟨3, 100, [⟨9, 0x11, 255⟩, ⟨2, 0x04, 255⟩, ⟨9, 0x00, 6⟩]⟩)) ready).segment? 3).map
    (fun g => g.marks) = some [⟨2, .m0, .pulse, none⟩, ⟨9, .m1, .set, none⟩, ⟨9, .m0, .none, some 6⟩] := by decide +kernel

/-- Position 100 of a segment in blocks 5, 6, 7 lies in block 6 at offset 36. -/
theorem test_write :
    let t := after (.writeSamples 1 (.fields ⟨30, 100, [1000, 2000]⟩)) (holding [seg 30 .filling 130 100 [5, 6, 7] 0])
    (t.segment? 30).map (fun g => g.fill) = some 102 ∧ readSample t.pool.mem [6] 36 = 1000 ∧ readSample t.pool.mem [6] 37 = 2000 ∧
      answer t = some (.ok, [102, 0]) := by decide +kernel

/-- Samples out of order leave the segment (R18). -/
theorem test_write_out_of_order : answer (after (.writeSamples 1 (.fields ⟨30, 99, [1]⟩)) (holding [seg 30 .filling 130 100 [5, 6, 7] 0])) =
    some (.outOfOrder, []) := by decide +kernel

/-- Sequence 1: the seal of segment 3 moves CH0 from STARVED to PLAYING. -/
theorem test_seal :
    let t := after (.sealSegment 1 (.fields 3))
      ((holding [seg 3 .filling 100 100 [0, 1] 1]).setChannel 0 (player .starved [entry 3 true]))
    (t.segment? 3).map (fun g => g.state) = some .ready ∧ (t.channel 0).state = .playing ∧ answer t = some (.ok, [100, 0, 100, 0]) := by
  decide +kernel

/-- Sequence 4: DELETE_SEGMENT 25 with refs 3 retires it. -/
theorem test_delete_retires :
    let t := after (.deleteSegment 1 (.fields 25)) (holding [seg 25 .ready 64 64 [9] 3])
    (t.segment? 25).map (fun g => g.retiring) = some true ∧ answer t = some (.ok, [1, 3]) := by decide +kernel

/-- Deleting a segment a channel is STARVED on: both entries are skipped, the second release frees it, CH0 drains; refs 2 in the
reply. -/
theorem test_delete_starved :
    let t := after (.deleteSegment 1 (.fields 50))
      (busy ((holding [seg 50 .filling 256 64 [0, 1, 2, 3] 2]).setChannel 0 (player .starved [entry 50 true, entry 50])))
    t.segment? 50 = none ∧ t.pool.free.length = 512 ∧ (t.channel 0).state = .drained ∧
      told t = [(.entrySkipped, .channel 0), (.segmentFreed, .segment 50), (.drained, .channel 0)] ∧
      t.notices.records.map (fun r => r.count) = [2, 1, 1] ∧ t.table.line = [.reply 1 0x13 .ok [1, 2]] := by decide +kernel

/-- GET_SEGMENT (R22): id, state, retiring, length, fill mark, block count, refs, origin HOST, no marks, blocks 6 and 7. -/
theorem test_get_segment : answer (after (.getSegment 1 (.fields ⟨30, 1⟩)) (holding [seg 30 .ready 130 130 [5, 6, 7] 2])) =
    some (.ok, [30, 2, 0, 130, 0, 130, 0, 3, 2, 255, 0, 2, 6, 0, 7, 0]) := by decide +kernel

/-- GET_POOL of the example of spec 01: 380 free, head block 136, 3 records, largest 8192, ids 20, 30, 40. -/
theorem test_get_pool : answer (after (.getPool 1 (.fields ())) { ready with pool :=
      { mem := [], free := List.range' 136 376 ++ [0, 1, 2, 3]
        map := [seg 20 .filling 64 0 [4] 0, seg 30 .filling 130 0 [5, 6, 7] 0, seg 40 .filling 8192 0 (List.range' 8 128) 0] } }) =
    some (.ok, [0x7C, 0x01, 0x88, 0x00, 3, 0x00, 0x20, 20, 30, 40]) := by decide +kernel

/-! ### Channel requests and ticks (worked examples of spec 02 and 11) -/

/-- CONFIGURE_CHANNEL: a STOPPED channel shows its new rest code 30000 (7530h). -/
theorem test_configure :
    let t := after (.configureChannel 1 (.fields ⟨1, 2, 30000⟩)) ready
    (t.channel 1).output = 30000 ∧ (t.channel 1).activeGen = 2 ∧ answer t = some (.ok, [2, 0x30, 0x75]) := by decide +kernel

/-- Sequence 1: ENQUEUE on the STOPPED CH0 raises refs to 1. -/
theorem test_enqueue :
    let t := after (.enqueue 1 (.fields ⟨0, 3, 0, 0x80, 4, 0xFF, 3⟩)) (holding [seg 3 .filling 100 0 [0, 1] 0])
    (t.segment? 3).map (fun g => g.refs) = some 1 ∧ (t.channel 0).queue = [{ entry 3 with repeats := 0, untilTrig := some 4 }] ∧
      answer t = some (.ok, [1, 0]) := by decide +kernel

/-- Sequence 4: ENQUEUE on a retiring segment is refused. -/
theorem test_enqueue_retiring : answer (after (.enqueue 1 (.fields ⟨1, 25, 1, 0x80, 0xFF, 0xFF, 0⟩))
    (holding [seg 25 .ready 64 64 [9] 3 true])) = some (.retiring, []) := by decide +kernel

/-- Sequence 1: START on a FILLING segment starves CH0. -/
theorem test_start :
    let t := after (.start 1 ⟨.fields 1, []⟩)
      (busy ((holding [seg 3 .filling 100 0 [0, 1] 1]).setChannel 0 (player .stopped [entry 3])))
    (t.channel 0).state = .starved ∧ told t = [(.starved, .channel 0)] ∧ t.table.line = [.reply 1 0x22 .ok [3]] := by
  decide +kernel

/-- Two channels on the running RG0 started with a tick between their starts: the tick reaches CH0 alone, so they begin one tick
apart (R49). -/
theorem test_start_apart :
    let s := (holding [seg 3 .ready 2 2 [0] 2]).setGenerator 0 { Generator.reset with running := true }
    let t := after (.start 1 ⟨.fields 3, [.channel 0, .tick ⟨0, false⟩, .channel 1]⟩)
      ((s.setChannel 0 (player .stopped [entry 3])).setChannel 1 (player .stopped [entry 3]))
    (t.channel 0).state = .playing ∧ (t.channel 1).state = .playing ∧ t.deliveries = [⟨0, 0, 1, 1⟩] ∧
      answer t = some (.ok, [2, 2]) := by decide +kernel

/-- STOP IMMEDIATE removes the started head and keeps the next entry. -/
theorem test_stop :
    let t := after (.stopImmediate 1 (.fields ⟨1, 0⟩))
      ((holding [seg 3 .ready 100 100 [0, 1] 2]).setChannel 0 { player .playing [entry 3 true, entry 3] with output := 5 })
    (t.channel 0).state = .stopped ∧ (t.channel 0).queue = [entry 3] ∧ (t.channel 0).output = 32768 ∧
      (t.segment? 3).map (fun g => g.refs) = some 1 ∧ answer t = some (.ok, [1, 1]) := by decide +kernel

/-- STOP AT_PASS_END marks the head of a PLAYING channel. -/
theorem test_stop_at_pass_end :
    let t := after (.stopAtPassEnd 1 1)
      ((holding [seg 12 .ready 64 64 [0] 1]).setChannel 0 (player .playing [entry 12 true]))
    (t.channel 0).state = .playing ∧ (t.channel 0).queue.map (fun e => e.stopPending) = [true] ∧ answer t = some (.ok, [0, 1]) := by
  decide +kernel

/-- RELEASE: passes 1 and cursor 1 of the example of spec 02. -/
theorem test_release :
    let t := after (.release 1 (.fields 0))
      (ready.setChannel 0 (player .playing [{ entry 7 true with passes := 1, cursor := 1 }]))
    (t.channel 0).queue.map (fun e => e.released) = [true] ∧ answer t = some (.ok, [1, 0, 1, 0]) := by decide +kernel

/-- Sequence 4: FLUSH of a WAITING CH3 releases 30, frees 25 and drains; 2 removed, DRAINED. -/
theorem test_flush :
    let t := after (.flush 1 (.fields 3))
      (busy ((holding [seg 25 .ready 64 64 [9] 1 true, seg 30 .ready 64 64 [1] 1]).setChannel 3
        (player .waiting [{ entry 30 with start := .onTrigger 1 }, entry 25])))
    (t.channel 3).state = .drained ∧ t.segment? 25 = none ∧ (t.segment? 30).map (fun g => g.refs) = some 0 ∧
      t.pool.free.getLast? = some 9 ∧ told t = [(.segmentFreed, .segment 25), (.drained, .channel 3)] ∧
      t.table.line = [.reply 1 0x25 .ok [2, 4]] := by decide +kernel

/-- GET_CHANNEL of a channel after a reset (R54). -/
theorem test_get_channel : answer (after (.getChannel 1 (.fields 2)) ready) =
    some (.ok, [2, 0x00, 0x80, 0, 2, 255, 0, 0x00, 0x80, 0, 0, 255, 255, 0, 0, 0, 0]) := by decide +kernel

/-- RG0 ticks: the count rises and the PLAYING CH0 is handed the tick. -/
theorem test_tick :
    let t := after (.tick ⟨0, false⟩) ((ready.setGenerator 0 { Generator.reset with running := true }).setChannel 0
      (player .playing [entry 7 true]))
    (t.generator 0).ticks = 1 ∧ t.deliveries = [⟨0, 0, 1, 1⟩] := by decide +kernel

/-- RG1's tick together with RG0's is of the same instant; a second of RG0 never is (R61). -/
theorem test_tick_together :
    let run := { Generator.reset with running := true }
    let t := after (.tick ⟨1, true⟩) (after (.tick ⟨0, false⟩) ((ready.setGenerator 0 run).setGenerator 1 run))
    (t.generator 0).tickedAt = 1 ∧ (t.generator 1).tickedAt = 1 ∧
      ((after (.tick ⟨0, true⟩) t).generator 0).tickedAt = 2 := by decide +kernel

/-- Segment 7 of spec 02: samples 1000, 2000, 3000 in block 0, a PULSE on M0 at position 2. -/
def playing7 (cursor : Nat) (released : Bool) : State :=
  let s := holding [{ seg 7 .ready 3 3 [0] 1 with marks := [⟨2, .m0, .pulse, none⟩] }]
  busy { s.setChannel 0 (player .playing [{ entry 7 true with repeats := 0, cursor := cursor, released := released, endAction := .hold }]) with
    pool := { s.pool with mem := writeRun [0] 0 [1000, 2000, 3000] [] }
    deliveries := [⟨0, 0, 1, 1⟩] }

/-- The third tick of spec 02: sample 3000, the pulse, the pass end of a head not released. -/
theorem test_delivery_pass_end :
    let t := after (.tickDelivery 0 0) (playing7 2 false)
    (t.channel 0).output = 3000 ∧ (t.channel 0).m0 = ⟨true, some 0⟩ ∧ (t.channel 0).counter = 1 ∧
      (t.channel 0).queue.map (fun e => (e.passes, e.cursor)) = [(1, 0)] ∧ t.deliveries = [] := by decide +kernel

/-- T5 of spec 04 with two occurrences counted, CHANGE on a rise of IN4, prescale 3, notify yes. -/
def counting (runs4 : Nat) : State :=
  { ready with trig := { TriggerUnit.reset with
      sampled := true, runs := (Vector.replicate 8 0).set 4 runs4
      triggers := (Vector.replicate 8 Trigger.reset).set 5
        { Trigger.reset with mode := .change, mask := 0x10, edge := .rise, prescale := 3, notify := true, count := 2 } } }

/-- A fire mark of CH0 in tick 1 of RG0 starts the WAITING CH1 on RG0 while that tick's delivery to CH1 is in flight (R42). -/
theorem test_fire_mark_holds_back :
    let s := holding [{ seg 7 .ready 3 3 [0] 1 with marks := [⟨0, .m0, .none, some 5⟩] }, seg 8 .ready 1 1 [1] 1]
    let t := after (.tickDelivery 0 0) { ((s.setChannel 0 (player .playing [entry 7 true])).setChannel 1
      (player .waiting [{ entry 8 with start := .onTrigger 5 }])) with
        trig := (counting 0).trig, deliveries := [⟨0, 0, 1, 1⟩, ⟨0, 1, 1, 1⟩] }
    (t.channel 1).state = .playing ∧ (t.channel 1).queue.map (fun e => e.spent) = [1] ∧ (t.channel 0).counter = 1 := by
  decide +kernel

/-- That delivery emits nothing and is taken off the count. -/
theorem test_held_back_delivery :
    let t := after (.tickDelivery 0 0) ((playing7 0 false).setChannel 0 (player .playing [{ entry 7 true with spent := 1 }]))
    (t.channel 0).output = 32768 ∧ (t.channel 0).queue = [entry 7 true] ∧ (t.channel 0).counter = 0 := by decide +kernel

/-- CH0 plays 7 on RG0 at its last sample with a pulse of RG1 pending on M1 and an entry on RG1 behind; both ticks, of one instant, are in flight. -/
def twoTicks : State :=
  let s := playing7 2 true
  { (s.setChannel 0 { s.channel 0 with
      queue := (s.channel 0).queue ++ [{ entry 7 with generator := some 1 }], m1 := ⟨true, some 1⟩ }) with
    deliveries := [⟨0, 0, 1, 1⟩, ⟨1, 0, 4, 1⟩] }

/-- Ticks of two generators at one instant: one emits, whichever is taken first, and the channel ends alike (R61). -/
theorem test_two_ticks :
    let t := after (.tickDelivery 0 1) (after (.tickDelivery 0 0) twoTicks)
    let u := after (.tickDelivery 0 0) (after (.tickDelivery 0 1) twoTicks)
    (t.channel 0).counter = 1 ∧ (t.channel 0).output = 3000 ∧ (t.channel 0).state = .playing ∧ (t.channel 0).activeGen = 1 ∧
      (t.channel 0).m1 = .low ∧ t.channel 0 = u.channel 0 := by decide +kernel

/-- A delivery before the start of CH1 completes CH0's head while the transmitter is free: ENTRY_DONE goes out in the delivery's event, and
START's reply waits on the line (R49, R154). -/
theorem test_start_lets_a_notice_out :
    let s : State := { playing7 2 true with
      link := ready.link, notices := { ready.notices with window := 1 } }
    let t := after (.start 1 ⟨.fields 2, [.tickDelivery 0 0, .channel 1]⟩) s
    t.table.line.length = 1 ∧ t.notices.records.map (fun r => (r.kind, r.isSent)) =
      [(.entryDone, true), (.drained, false), (.drained, false)] := by decide +kernel

/-- With a tick of RG1 of an instant of its own, and with STOP and START between, both ticks emit (R42); a tick of an
earlier instant at which the channel has emitted does not, taken after one of a later instant (R61). -/
theorem test_ticks_apart :
    let t := after (.tickDelivery 0 1) (after (.tickDelivery 0 0) { twoTicks with deliveries := [⟨0, 0, 1, 2⟩, ⟨1, 0, 4, 1⟩] })
    let stopped := after (.stopImmediate 2 (.fields ⟨1, 0⟩)) (after (.tickDelivery 0 0)
      (twoTicks.modChannel 0 (fun ch => { ch with queue := ch.queue ++ [{ entry 7 with generator := some 1 }] })))
    let u := after (.tickDelivery 0 1) (after (.start 1 ⟨.fields 1, []⟩) stopped)
    let late := twoTicks.modChannel 0 (fun ch => { ch with queue := setHead (fun e => { e with cursor := 1 }) ch.queue })
    let v := after (.tickDelivery 0 1) (after (.tickDelivery 0 0) (after (.tickDelivery 0 0)
      { late with deliveries := [⟨0, 0, 1, 1⟩, ⟨0, 0, 2, 2⟩, ⟨1, 0, 4, 1⟩] }))
    (v.channel 0).counter = 2 ∧ (v.channel 0).activeGen = 1 ∧ (v.channel 0).emittedAt = [2, 1] ∧
    (t.channel 0).counter = 2 ∧ (t.channel 0).output = 1000 ∧ (u.channel 0).counter = 1 ∧ (u.channel 0).output = 1000 := by
  decide +kernel

/-- The same tick with the head released: ENTRY_DONE, the reference released, CH0 DRAINED holding 3000. -/
theorem test_delivery_completes :
    let t := after (.tickDelivery 0 0) (playing7 2 true)
    (t.channel 0).output = 3000 ∧ (t.channel 0).state = .drained ∧ (t.segment? 7).map (fun g => g.refs) = some 0 ∧
      told t = [(.entryDone, .channel 0), (.drained, .channel 0)] ∧
      t.notices.records.map (fun r => r.detail) = [[7, 1, 0], [1, 0, 0, 0]] := by decide +kernel

/-! ### Generator and trigger requests (worked examples of spec 03 and 04) -/

/-- SET_RATE RG1, divider 240, RUNNING, tick count 1. -/
theorem test_set_rate :
    let t := after (.setRate 1 (.fields ⟨1, 240⟩))
      (ready.setGenerator 1 { divider := 480, running := true, elapsed := 360, ticks := 1, tickedAt := 0 })
    t.generator 1 = { divider := 240, running := true, elapsed := 0, ticks := 1, tickedAt := 0 } ∧
      answer t = some (.ok, [1, 240, 0, 0, 0, 1, 1, 0, 0, 0]) := by decide +kernel

/-- RUN_RATES (RG0, RG1): both started, none already running. -/
theorem test_run_rates :
    let t := after (.runRates 1 (.fields 3)) ready
    (t.generator 0).running = true ∧ (t.generator 1).running = true ∧ (t.generator 2).running = false ∧
      answer t = some (.ok, [3, 0]) := by decide +kernel

/-- HALT_RATES (RG0, RG1): halted both, counts 5 and 3. -/
theorem test_halt_rates : answer (after (.haltRates 1 (.fields 3)) ((ready.setGenerator 0
    { Generator.reset with running := true, ticks := 5 }).setGenerator 1 { Generator.reset with running := true, ticks := 3 })) =
    some (.ok, [3, 5, 0, 0, 0, 3, 0, 0, 0]) := by decide +kernel

/-- GET_RATES after a reset: divider 24,000 (5DC0h), HALTED, no tick, no listener, four times. -/
theorem test_get_rates : answer (after (.getRates 1 (.fields ())) ready) =
    some (.ok, (List.replicate 4 [0xC0, 0x5D, 0, 0, 0, 0, 0, 0, 0, 0, 0]).flatten) := by decide +kernel

/-- SET_INPUTS divider 240, confirm count 8. -/
theorem test_set_inputs :
    let t := after (.setInputs 1 (.fields ⟨240, 8⟩)) ready
    t.trig.confirm = 8 ∧ answer t = some (.ok, [240, 0, 8, 0]) := by decide +kernel

/-- DEFINE_TRIGGER T2, MATCH on IN0 high and IN1 low, while the levels match: matched yes, no occurrence. -/
theorem test_define :
    let t := after (.defineTrigger 1 (.fields ⟨2, 2, 3, 1, 2, 1, 0⟩))
      { ready with trig := { TriggerUnit.reset with sampled := true, confirmed := 1 } }
    (t.trigger 2).matched = true ∧ (t.trigger 2).fires = 0 ∧ answer t = some (.ok, [2, 3, 1, 2, 1, 0, 1, 0, 0, 0, 0]) := by
  decide +kernel

/-- Sample 12 of spec 04 confirms the rise, and T5 fires. -/
theorem test_sample_fires :
    let t := after (.sample 0x10 []) (busy (counting 1))
    t.trig.confirmed = 0x10 ∧ t.trig.runs[4] = 0 ∧ (t.trigger 5).count = 0 ∧ (t.trigger 5).fires = 1 ∧
      told t = [(.triggerFired, .trigger 5)] ∧ t.notices.records.map (fun r => r.detail) = [[0x10, 1, 0, 0, 0]] := by decide +kernel

/-- Sample 11: run count 1, not confirmed. -/
theorem test_sample_waits :
    let t := after (.sample 0x10 []) (counting 0)
    t.trig.confirmed = 0 ∧ t.trig.runs[4] = 1 ∧ (t.trigger 5).count = 2 := by decide +kernel

/-- FIRE T5 leaves the occurrence count and starts the WAITING CH3. -/
theorem test_fire :
    let t := after (.fire 1 (.fields 5)) (busy { (holding [seg 8 .ready 2 2 [0] 1]).setChannel 3
      (player .waiting [{ entry 8 with start := .onTrigger 5 }]) with trig := (counting 0).trig })
    (t.channel 3).state = .playing ∧ (t.trigger 5).count = 2 ∧ t.table.line = [.reply 1 0x42 .ok [1, 0, 0, 0, 0]] := by decide +kernel

/-- GET_TRIGGER of T5: CHANGE, mask, pattern, RISE, prescale, notify, count 2, matched, fires, captured, waiting, until. -/
theorem test_get_trigger : answer (after (.getTrigger 1 (.fields 5)) (counting 0)) =
    some (.ok, [1, 0x10, 0, 0, 3, 1, 2, 0, 0, 0, 0, 0, 0, 0, 0]) := by decide +kernel

/-- GET_INPUTS after a reset: divider 240, confirm count 2, not sampled. -/
theorem test_get_inputs : answer (after (.getInputs 1 (.fields ())) ready) =
    some (.ok, [240, 0, 2, 0] ++ List.replicate 24 0 ++ List.replicate 8 0) := by decide +kernel

/-! ### The store (worked examples of spec 05, 06 and 11) -/

/-- A started part with a STORED slot S14 of three samples and READY segment 25 of one sample in block 9. -/
def library : State :=
  let s := holding [seg 25 .ready 1 1 [9] 0]
  { s.setSlot 14 (stored [7, 8, 9]) with pool := { s.pool with mem := writeRun [9] 0 [77] [] } }

/-- SAVE raises refs, announces and reports WRITING; no reply comes yet. -/
theorem test_save :
    let t := after (.save 9 (.fields ⟨20, 25, [0x41]⟩)) library
    (t.segment? 25).map (fun g => g.refs) = some 1 ∧ (t.slot 20).operation = .save ∧ reportedSlot 20 (t.slot 20) t.jobs = 3 ∧
      t.jobs.map (fun j => j.remaining) = [24 * 4500] ∧ t.table = ⟨[⟨9, 0x60, .awaiting, false⟩], []⟩ := by decide +kernel

/-- SAVE completes: STORED, count 1, the reference released, the check value over length 1, sample 77, no marks. -/
theorem test_save_completion :
    let t := after .saveCompletion (busy (working ((holding [seg 25 .ready 1 1 [9] 1]).setSlot 20
      { Slot.shipped with operation := .save }) [job (.save 20 25 [0x41]) .active]))
    (t.slot 20).stored = .stored ∧ (t.slot 20).label = [0x41] ∧ (t.slot 20).saveCount = 1 ∧
      (t.slot 20).check = crc32 [1, 0, 0, 0, 0] ∧ (t.segment? 25).map (fun g => g.refs) = some 0 ∧ t.jobs = [] ∧
      t.table.entries = [⟨9, 0x60, .queued, false⟩] := by decide +kernel

/-- Sequence 3: a LOAD of S14 as id 70 suspends the ACTIVE erase of S12. -/
theorem test_load_suspends :
    let t := after (.load 51 (.fields ⟨14, 70⟩)) (working library [job (.erase 12) .active])
    t.jobs.map (fun j => (j.work, j.state, j.suspensions)) = [(.erase 12, .suspended, 1), (.load 14 70, .active, 0)] ∧
      (t.segment? 70).map (fun g => (g.state, g.length, g.refs, g.origin)) = some (.loading, 3, 1, .slot 14) := by decide +kernel

/-- Segment 70 in its blocks, as the LOAD of S14 with these samples. -/
def loading (fill : Nat) (blocks : List Nat) (xs : List Sample) : State :=
  busy (working ((holding [{ seg 70 .loading xs.length fill blocks 1 with origin := .slot 14 }]).setSlot 14 (stored xs))
    [job (.load 14 70) .active])

/-- Sequence 3: the first block transfer raises the fill mark to 64. -/
theorem test_block_transfer :
    let t := after (.blockTransfer []) (loading 0 [0, 1, 2] (List.replicate 192 5))
    (t.segment? 70).map (fun g => g.fill) = some 64 ∧ readSample t.pool.mem [0, 1, 2] 63 = 5 ∧
      readSample t.pool.mem [0, 1, 2] 64 = 0 := by decide +kernel

/-- Sequence 3: the LOAD completes with a match: READY, refs 0, OK placed. -/
theorem test_load_completion :
    let t := after (.loadCompletion []) (loading 0 [4] [7, 8, 9])
    (t.segment? 70).map (fun g => (g.state, g.fill, g.refs)) = some (.ready, 3, 0) ∧ readSample t.pool.mem [4] 2 = 9 ∧ t.jobs = [] ∧
      t.table.line.map (fun x => x.content.drop 1) = [[9, 0x61, 0, 14, 70, 3, 0] ++ u32 (t.slot 14).check.toNat] := by
  decide +kernel

/-- A changed cell makes the completion fail: the segment is freed with its notice, CHECK_FAILED. -/
theorem test_load_check_failed :
    let t := after (.loadCompletion [(2, 1)]) (loading 0 [4] [7, 8, 9])
    t.segment? 70 = none ∧ told t = [(.segmentFreed, .segment 70)] ∧ (t.slot 14).stored = .stored ∧
      t.table.line.map (fun x => x.content.take 4) = [[0x52, 9, 0x61, 0x1B]] := by decide +kernel

/-- ERASE announces; it completes BLANK, keeping the lock level and the save count. -/
theorem test_erase :
    let t := after (.erase 9 (.fields 14)) library
    (t.slot 14).stored = .torn ∧ reportedSlot 14 (t.slot 14) t.jobs = 4 ∧ t.jobs.map (fun j => j.remaining) = [24 * 60000] := by
  decide +kernel

theorem test_erase_completion :
    let t := after .eraseCompletion (busy (working (library.setSlot 14
      { stored [7, 8, 9] with operation := .erase, saveCount := 3 }) [job (.erase 14) .active]))
    t.slot 14 = { Slot.shipped with saveCount := 3 } ∧ t.table.line = [.reply 9 0x62 .ok [14, 3, 0, 0, 0, 0]] := by decide +kernel

/-- SET_LOCK to LOCKED on an OPEN slot; FREEZE taken first on a LOCKED slot, the completion to OPEN leaves it FROZEN (R94). -/
theorem test_set_lock : (after (.setLock 9 (.fields ⟨14, 1⟩)) library).jobs.map (fun j => j.work) = [.setLock 14 .locked] := by
  decide +kernel

theorem test_set_lock_completion :
    let t := after .setLockCompletion (busy (working (library.setSlot 14
      { stored [7] with lock := .locked, freeze := true }) [job (.setLock 14 .unlocked) .active]))
    (t.slot 14).lock = .unlocked ∧ (t.slot 14).effective = .frozen ∧ t.table.line = [.reply 9 0x63 .ok [14, 0, 0, 2]] := by
  decide +kernel

/-- FREEZE on a LOCKED slot: FROZEN at once; on an OPEN one SLOT_LOCKED. -/
theorem test_freeze :
    let t := after (.freeze 1 (.fields 14)) (library.setSlot 14 { stored [7] with lock := .locked })
    (t.slot 14).effective = .frozen ∧ answer t = some (.ok, [14, 1, 0, 2]) ∧
      answer (after (.freeze 1 (.fields 14)) library) = some (.slotLocked, []) := by decide +kernel

/-- SAVE_PLAN: a plan that passes is announced; an ENQUEUE before its LOAD fails check 4 at step 0. -/
theorem test_save_plan : (after (.savePlan 9 (.fields ⟨1, 2, [.load ⟨2, 40⟩, .start 1], []⟩)) library).planArea.stored = .torn ∧
    answer (after (.savePlan 9 (.fields ⟨1, 1, [.enqueue ⟨0, 40, 0, 0x80, 255, 255, 0⟩], []⟩)) library) =
      some (.planInvalid, [0, 4]) := by decide +kernel

theorem test_save_plan_completion :
    let t := after .savePlanCompletion (busy (working library
      [job (.savePlan ⟨1, [.run 1]⟩) .active]))
    t.planArea = ⟨some ⟨1, [.run 1]⟩, .none⟩ ∧ t.table.line = [.reply 9 0x65 .ok [1, 1]] := by decide +kernel

theorem test_clear_plan : (after (.clearPlan 9 (.fields ())) library).planArea.operation = .clear := by decide +kernel

theorem test_clear_plan_completion :
    let t := after .clearPlanCompletion (busy (working
      (library.setPlan ⟨some ⟨1, [.run 1]⟩, .clear⟩) [job .clearPlan .active]))
    t.planArea.stored = .none ∧ t.table.line = [.reply 9 0x66 .ok []] := by decide +kernel

/-- Sequence 3: CANCEL of the SUSPENDED erase: TORN; 50 CANCELLED (ERASE, SUSPENDED, TORN), then 52 OK; the LOAD runs on. -/
theorem test_cancel :
    let t := after (.cancel 52 (.fields 50)) (busy { (library.setSlot 12 { Slot.shipped with operation := .erase }) with
      jobs := [⟨.erase 12, .request 50 false, .suspended, 840000, 1⟩, ⟨.load 14 70, .request 51 false, .active, 7200, 0⟩]
      table := ⟨[⟨50, 0x62, .awaiting, false⟩, ⟨51, 0x61, .awaiting, false⟩], []⟩ })
    (t.slot 12).stored = .torn ∧ t.jobs.map (fun j => j.work) = [.load 14 70] ∧
      t.table.line = [.reply 50 0x62 .cancelled [2, 2, 2], .reply 52 0x67 .ok [2, 2, 2]] := by decide +kernel

/-- GET_SLOT of S14 locked: STORED, length 3, no marks, no label, check, LOCKED, flag clear (1), LOCKED, count 0, 100,000 (186A0h)
remaining, no job. -/
theorem test_get_slot : answer (after (.getSlot 1 (.fields 14)) (library.setSlot 14 { stored [7, 8, 9] with lock := .locked })) =
    some (.ok, [14, 1, 3, 0, 0, 0] ++ u32 (crc32 [3, 0, 7, 0, 8, 0, 9, 0, 0]).toNat ++ [1, 1, 1] ++ [0, 0, 0, 0] ++
      [0xA0, 0x86, 0x01, 0x00] ++ [255, 255, 255, 255]) := by decide +kernel

/-- GET_STORE from slot 30: 31 BLANK, 1 STORED, plan NONE, no job; two records of nine bytes (R176). -/
theorem test_get_store : answer (after (.getStore 1 (.fields (some 30))) library) =
    some (.ok, [31, 1, 0, 0, 0, 0, 0] ++ [30, 2] ++ List.replicate 18 0) := by decide +kernel

/-- GET_PLAN of an empty plan area: NONE, no plan job. -/
theorem test_get_plan : answer (after (.getPlan 1 (.fields ())) library) = some (.ok, [0, 255, 255, 255]) := by decide +kernel

/-! ### Power, resets and start-up (spec 07, sequence 6) -/

theorem test_power_on :
    let t := after (.powerOn 2) { library.setSlot 14 { stored [7] with lock := .locked, freeze := true } with
      powered := false }
    (t.slot 14).freeze = false ∧ (t.slot 14).stored = .stored ∧ t.link.straps = 2 ∧ t.startup.phase = .scanning ∧
      t.pool.free.length = 512 := by decide +kernel

theorem test_pin_reset :
    let t := after (.pinReset 3) { library.setSlot 14 { stored [7] with freeze := true } with resetnLow := true }
    (t.slot 14).freeze = true ∧ t.startup.cause = .pin ∧ t.link.straps = 3 ∧ t.pool.map = [] := by decide +kernel

theorem test_resetn_and_power_loss : (after .resetnAsserted library).pool.map = [] ∧ (after .powerLoss library).alive = false ∧
    after (.tick ⟨0, false⟩) (after .resetnAsserted library) = after .resetnAsserted library := by decide +kernel

/-- A scan that finds no plan: STARTED with cause POWER_ON, 31, 1, 0, NONE, NOT_RUN, no channel. -/
theorem test_scan :
    let t := after .scanCompletion (busy { library with startup := .reset .powerOn })
    t.startup.phase = .ready ∧ told t = [(.started, .part)] ∧
      t.notices.records.map (fun r => r.detail) = [[0, 31, 1, 0, 0, 0, 255, 255, 0]] := by decide +kernel

/-- Sequence 6: step 0 of the plan is accepted at the scan completion. -/
theorem test_scan_runs_plan :
    let t := after .scanCompletion
      { (library.setPlan ⟨some ⟨6, [.load ⟨14, 5⟩, .run 1]⟩, .none⟩) with startup := .reset .pin }
    t.startup.phase = .plan ∧ t.startup.step = some 0 ∧ t.jobs.map (fun j => (j.work, j.origin)) = [(.load 14 5, .plan)] := by
  decide +kernel

/-- A plan that runs, at the LOAD of a slot that fails its check (sequence 6, step 6 with status 1Bh). -/
theorem test_plan_fails :
    let t := after (.loadCompletion [(0, 1)]) { loading 0 [4] [7, 8, 9] with
      jobs := [⟨.load 14 70, .plan, .active, 1, 0⟩]
      startup := { Startup.reset .pin with phase := .plan, step := some 6, planStarted := 1 } }
    t.startup.result = some (.failed 6 .checkFailed) ∧ told t = [(.segmentFreed, .segment 70), (.started, .part)] := by
  decide +kernel

theorem test_reset :
    let t := after (.reset 1 (.fields ())) ready
    t.startup.resetPending = true ∧ answer t = some (.ok, []) ∧ t.startup.phase = .ready := by decide +kernel

theorem test_abort_plan :
    let t := after (.abortPlan 1 (.fields ())) (busy { loading 64 [4] [7] with
      startup := { Startup.reset .pin with phase := .plan, step := some 0 } })
    t.startup.result = some (.aborted 0) ∧ t.jobs.length = 1 ∧ t.table.line = [.reply 1 0x71 .ok [0, 0]] := by decide +kernel

/-- Outside the plan run a request meets STARTING, one that is exempt is taken. -/
theorem test_starting : answer (after (.start 1 ⟨.fields 1, []⟩) State.reset) = some (.starting, []) ∧
    (answer (after (.getPool 1 (.fields ())) State.reset)).map (fun a => a.1) = some .ok := by decide +kernel

/-! ### The link and the Notice Queue (spec 08 to 10, sequence 5) -/

/-- SYNC, LENGTH 3, then a second SYNC as data: the receiver's table. -/
theorem test_bytes : (after .syncByte ready).link.receiver = .length ∧
    (after (.frameByte 3) { ready with link := { ready.link with receiver := .length } }).link.receiver = .body 3 [] ∧
    (after (.frameByte 0xB7) { ready with link := { ready.link with receiver := .body 3 [0x51, 30] } }).link.receiver =
      .check 3 [0x51, 30, 0xB7] none ∧ (after (.huntByte 0) ready).link.counters.huntBytes = 1 := by decide +kernel

/-- The second check byte of an acknowledgement completes a good frame. -/
theorem test_frame_byte :
    let t := after (.frameByte 0x10) { ready with link := { ready.link with
      receiver := .check 2 [0x54, 0x07] (some 0x60) } }
    t.link.receiver = .hunt ∧ t.link.counters.goodFrames = 1 ∧ t.link.counters.unknownAcks = 1 := by decide +kernel

/-- A damaged GET_POOL (spec 08): a check error, LINK_FAULT CHECK with counter 1, no entry. -/
theorem test_check_error :
    let t := after (.checkError [0x51, 30, 0x14] 0) (busy ready)
    t.link.counters.checkErrors = 1 ∧ t.table.entries = [] ∧ told t = [(.linkFault, .link)] ∧
      t.notices.records.map (fun r => r.detail) = [[1, 1, 0]] := by decide +kernel

theorem test_link_errors : (after (.lengthError 0) ready).link.counters.lengthErrors = 1 ∧
    (after (.kindError 0x53 1 []) ready).link.counters.kindErrors = 1 ∧
    (after .gapError { ready with link := { ready.link with receiver := .length, gap := .running 5 } }).link.receiver = .hunt ∧
    (after .stopBitError { ready with link := { ready.link with receiver := .length } }).link.receiver = .length := by
  decide +kernel

/-- The break of spec 08: tag 6 leaves, tag 5 is orphaned, tag 9 stays; 11 and 12 marked, LINK_FAULT after DRAINED. -/
theorem test_break :
    let t := after .lineBreak { ready with
      link := { ready.link with tx := .reply (.reply 9 0x21 .ok [1, 2]) [] }
      table :=
        { entries := [⟨5, 0x60, .awaiting, false⟩, ⟨6, 0x15, .queued, false⟩, ⟨9, 0x21, .sending, false⟩]
          line := [.reply 6 0x15 .ok [], .refusal 5 0x10 .tagInUse] }
      notices := { Notices.reset with nextSeq := 13, timer := .running 0, records :=
        [⟨.entryDone, .channel 0, [], 1, .sent 11⟩, ⟨.starved, .channel 0, [], 1, .sent 12⟩, ⟨.drained, .channel 1, [], 1, .new⟩] } }
    t.table = ⟨[⟨5, 0x60, .awaiting, true⟩, ⟨9, 0x21, .sending, false⟩], []⟩ ∧ t.link.counters.breaks = 1 ∧
      t.notices.records.map (fun r => r.state) = [.resend 11, .resend 12, .new, .new] ∧ t.notices.timer = .stopped ∧
      t.link.tx ≠ .free := by decide +kernel

theorem test_mark : (after .rxdReturnsToMark { ready with link := { ready.link with breakHeld := true } }).link.breakHeld = false := by
  decide +kernel

/-- The end of a reply: its entry leaves and the arbiter sends the next item. -/
theorem test_reply_end :
    let t := after .replyFrameEnd { ready with
      link := { ready.link with tx := .reply (.reply 9 0x21 .ok [1, 2]) [] }
      table := ⟨[⟨9, 0x21, .sending, false⟩], [.refusal 5 0x10 .tagInUse]⟩ }
    t.table = ⟨[], []⟩ ∧ answer t = some (.tagInUse, []) ∧ t.link.counters.replyFrames = 1 := by decide +kernel

/-- Sequence 5: the acknowledgement of 90 removes A, appends LOST (4, 4) and sends the oldest NEW record as 91. -/
theorem test_acknowledge :
    let t := after (.noticeAcknowledgement 90 []) { ready with notices := { Notices.reset with
      window := 1, nextSeq := 91, tally := 4, total := 4, timer := .running 7
      records := [⟨.triggerFired, .trigger 0, [], 1, .sent 90⟩, ⟨.drained, .channel 1, [], 1, .new⟩] } }
    t.notices.records = [⟨.drained, .channel 1, [], 1, .sent 91⟩, ⟨.lost, .part, [4, 0, 4, 0], 1, .new⟩] ∧
      t.notices.tally = 0 ∧ t.notices.total = 4 ∧ t.notices.nextSeq = 92 := by decide +kernel

/-- The expiry of spec 10 marks 42 and 43; the arbiter resends 42. -/
theorem test_expiry :
    let t := after .retransmitTimerExpiry { ready with notices := { Notices.reset with
      window := 2, nextSeq := 44, timer := .running 2399999
      records := [⟨.drained, .channel 0, [], 2, .sent 42⟩, ⟨.entryDone, .channel 0, [], 2, .sent 43⟩] } }
    t.notices.records.map (fun r => r.state) = [.sent 42, .resend 43] ∧ t.notices.timer = .running 0 := by decide +kernel

theorem test_notice_end : (after .noticeFrameEnd (busy ready)).link.counters.noticeFrames = 1 ∧
    (after .noticeFrameEnd (busy ready)).link.tx = .free := by decide +kernel

/-- SET_NOTICES with window 1 and no kind: STARTED and LOST (bits 7 and 8) stay enabled. -/
theorem test_set_notices : answer (after (.setNotices 1 (.fields ⟨1, 0⟩)) ready) =
    some (.ok, [1, 0x80, 0x01, 0, 0, 0, 0, 0, 0, 0]) := by decide +kernel

/-- GET_LINK at 115,200 baud (1C200h), straps 00, HUNT, free; itself the one good frame. -/
theorem test_get_link : answer (after (.getLink 1 (.fields 0)) ready) =
    some (.ok, [0x00, 0xC2, 0x01, 0x00, 0, 0, 0] ++ [1, 0] ++ List.replicate 22 0) := by decide +kernel

theorem test_get_part : (answer (after (.getPart 1 (.fields ())) State.reset)).map (fun a => a.2.take 7) =
    some [0x14, 0x0D, 0x41, 4, 4, 8, 8] := by decide +kernel

/-- UNKNOWN_REQUEST is refused by a record under the code received. -/
theorem test_unknown : (after (.unknownRequest 5 [0x99, 1]) ready).link.tx =
    .reply (.refusal 5 0x99 .unknownRequest) (frame [0x52, 5, 0x99, 2]) := by decide +kernel

/-- On an empty queue the RUNNING generator counts one period. -/
theorem test_period :
    let t := (ready.setGenerator 2 { Generator.reset with running := true }).period
    (t.generator 2).elapsed = 1 ∧ (t.generator 1).elapsed = 0 ∧ t.trig.elapsed = 1 := by decide +kernel

/-! ### For each statement with hypotheses, states and operands that meet them, clause by clause -/

/-- A notice record of CH0 or of the trigger of this number. -/
def record (k : NoticeKind) (st : NoticeState) (count : Half := 1) : Notice := ⟨k, .channel 0, [], count, st⟩

/-- A started part with these records and this window. -/
def noticing (window : Nat) (rs : List Notice) : State :=
  { ready with notices := { Notices.reset with window := window, records := rs, nextSeq := 9, timer := .running 0 } }

/-- The receiver in this state. -/
def receiving (r : Receiver) : State := { ready with link := { ready.link with receiver := r, gap := .running 0 } }

/-- RESET taken, its reply in transmission. -/
def resetting : State :=
  { ready with
    startup := { ready.startup with resetPending := true }
    link := { ready.link with tx := .reply (.reply 3 0x70 .ok []) [] }
    table := ⟨[⟨3, 0x70, .sending, false⟩], []⟩ }

theorem witness_StepTakesFrontCommand : ({ ready with pending := [.tick ⟨0, false⟩, .syncByte] }).pending = .tick ⟨0, false⟩ :: [.syncByte] := rfl

theorem witness_IdleStepIsOnePeriod : (receiving .length).pending = [] ∧ (receiving .length).alive = true ∧
    (receiving .length).link.gap = .running 0 ∧ (receiving .length).notices.timer = .stopped ∧
    (noticing 1 []).notices.timer = .running 0 ∧ (noticing 1 []).link.gap = .stopped ∧
    ({ ready with powered := false }).pending = [] ∧ ({ ready with powered := false }).alive = false := by decide +kernel

theorem witness_CommandsKeepTheQueue : ∃ t, exec .syncByte { ready with pending := [.tick ⟨0, false⟩] } = .next t := ⟨_, rfl⟩

theorem witness_PowerAndPinReset : ready.powered = true ∧ ({ ready with powered := false }).powered = false := by decide +kernel

theorem witness_HeldPartStandsAtReset : ({ ready with resetnLow := true }).alive = false ∧ (∀ v, Instr.syncByte ≠ .powerOn v) ∧
    Instr.syncByte ≠ .powerLoss ∧ Instr.syncByte ≠ .resetnAsserted ∧ (∀ v, Instr.syncByte ≠ .pinReset v) := by decide +kernel

theorem witness_SoftResetAtReplyEnd : resetting.alive = true ∧ resetting.startup.resetPending = true ∧
    resetting.link.tx = .reply (.reply 3 0x70 .ok []) [] := by decide +kernel

/-- The shortest and the longest content. -/
theorem witness_FramesReadBack : (Instr.noticeAcknowledgement 7 []).wellFormed = true ∧
    (Instr.noticeAcknowledgement 7 []).content? = some [0x54, 7] ∧
    (Instr.unknownRequest 1 (List.replicate 248 0xB7)).wellFormed = true ∧
    (Instr.unknownRequest 1 (List.replicate 248 0xB7)).content?.map List.length = some 250 := by decide +kernel

theorem witness_FrameCommandIsItsBytes : (Instr.unknownRequest 1 []).wellFormed = true ∧
    (Instr.unknownRequest 1 []).content? = some [0x51, 1] ∧ ready.listening = true ∧ ready.settled = true ∧
    (busy (noticing 1 [record .drained .new])).listening = true ∧ (busy (noticing 1 [record .drained .new])).settled = true ∧
    (Instr.checkError [0x51, 1] 0).wellFormed = true := by decide +kernel

/-- LENGTH 2 and 250; the last and another byte of BODY; both check bytes, with a check that matches and one that does not. -/
theorem witness_ReceiverTakesBytes : ready.alive = true ∧ ready.link.breakHeld = false ∧ ready.link.receiver = .hunt ∧
    (0xB6 : Byte) ≠ 0xB7 ∧ (receiving .length).link.receiver = .length ∧ 2 ≤ (2 : Byte).toNat ∧ (250 : Byte).toNat ≤ 250 ∧
    (receiving (.body 2 [0x54])).link.receiver = .body 2 [0x54] ∧ (receiving (.body 2 [])).link.receiver = .body 2 [] ∧
    (receiving (.check 2 [0x54, 7] none)).link.receiver = .check 2 [0x54, 7] none ∧
    (receiving (.check 2 [0x54, 7] (some 0x60))).link.receiver = .check 2 [0x54, 7] (some 0x60) ∧
    half 0x60 0x10 = frameCheck [0x54, 7] ∧ (Instr.noticeAcknowledgement 7 []).content? = some [0x54, 7] ∧
    (Instr.noticeAcknowledgement 7 []).wellFormed = true ∧ half 0x60 0x11 ≠ frameCheck [0x54, 7] := by decide +kernel

/-- LENGTH 1 and 251. -/
theorem witness_LinkFaults : ready.alive = true ∧ ready.link.breakHeld = false ∧ ready.link.receiver ≠ .length ∧
    ready.link.receiver = .hunt ∧ ((1 : Byte).toNat < 2 ∨ 250 < (1 : Byte).toNat) ∧
    ((251 : Byte).toNat < 2 ∨ 250 < (251 : Byte).toNat) ∧ 0 ≠ frameCheck [0x51, 30, 0x14] ∧
    (receiving .length).alive = true ∧ (receiving .length).link.breakHeld = false ∧
    (receiving .length).link.receiver ≠ .hunt := by decide +kernel

theorem witness_BreakResetsTheLink : ready.alive = true ∧ ready.link.breakHeld = false ∧ ready.startup.resetPending = false ∧
    ({ ready with link := { ready.link with breakHeld := true } }).link.breakHeld = true ∧
    (busy resetting).startup.resetPending = true ∧ (busy resetting).table.line = [] ∧ resetting.link.breakHeld = false ∧
    resetting.link.tx = .reply (.reply 3 0x70 .ok []) [] ∧
    (let s : State := { resetting with link := (busy ready).link, table := ⟨[⟨3, 0x70, .queued, false⟩], [.reply 3 0x70 .ok []]⟩ }
     s.startup.resetPending = true ∧ .reply 3 0x70 .ok [] ∈ s.table.line ∧ s.link.tx = .notice 0 [] ∧ s.alive = true ∧
      s.link.breakHeld = false ∧ s.settled = true) := by decide +kernel

theorem witness_GenericChecksRefuse : ready.listening = true ∧ (Instr.sealSegment 5 (.malformed [])).code? = some 0x12 ∧
    malformedRequest (.sealSegment 5 (.malformed [])) = true ∧ malformedRequest (.sealSegment 5 (.fields 1)) = false ∧
    (let s : State := { ready with table := ⟨[⟨5, 0x60, .awaiting, false⟩], []⟩ }
     s.listening = true ∧ ∃ e ∈ s.table.entries, e.tag = (Instr.sealSegment 5 (.fields 1)).tag ∧ e.orphaned = false) ∧
    (let s : State := { ready with table := ⟨List.replicate 8 ⟨5, 0x60, .awaiting, true⟩, []⟩ }
     s.listening = true ∧ (∀ e ∈ s.table.entries, e.tag = 5 → e.orphaned = true) ∧ 8 ≤ s.table.entries.length) ∧
    (State.reset.listening = true ∧ (∀ e ∈ State.reset.table.entries, e.tag = 5 → e.orphaned = true) ∧
      State.reset.table.entries.length < 8 ∧ State.reset.startup.phase ≠ .ready ∧ (0x12 : Byte) ∉ exemptCodes) := by
  decide +kernel

/-- Windows 0, 1 and 4; a record to resend behind one that is SENT; a NEW record with room and without. -/
theorem witness_ArbiterChoosesTheFrame : (noticing 0 []).notices.window = 0 ∧
    (let q := (noticing 4 [record .drained (.sent 7), record .starved (.resend 8)]).notices
     q.window ≠ 0 ∧ q.records = [record .drained (.sent 7)] ++ record .starved (.resend 8) :: [] ∧
      ∀ x ∈ [record .drained (.sent 7)], x.state ≠ .resend 8) ∧
    (let q := (noticing 1 [record .drained (.sent 8), record .drained .new]).notices
     q.window ≤ q.records.countP Notice.isSent ∧ ∀ x ∈ q.records, x.isResend = false) ∧
    (let s := noticing 1 [record .drained .new]
     s.notices.records.countP Notice.isSent < s.notices.window ∧ s.link.tx = .free ∧ s.table.line = [] ∧
      s.notices.offer = some (record .drained .new) ∧ s.notices.records = [] ++ record .drained .new :: []) ∧
    (let s := noticing 1 [record .drained (.resend 8)]
     s.link.tx = .free ∧ s.table.line = [] ∧ s.notices.offer = some (record .drained (.resend 8))) ∧
    (busy ready).link.tx ≠ .free ∧ (ready.link.tx = .free ∧ ready.table.line = [] ∧ ready.notices.offer = none) ∧
    (let s : State := { ready with table := ⟨[⟨4, 0x15, .awaiting, true⟩, ⟨4, 0x15, .queued, false⟩], [.reply 4 0x15 .ok []]⟩ }
     s.link.tx = .free ∧ s.table.line = .reply 4 0x15 .ok [] :: [] ∧
      s.table.entries = [⟨4, 0x15, .awaiting, true⟩] ++ ⟨4, 0x15, .queued, false⟩ :: []) := by decide +kernel

theorem witness_TransmissionEnds :
    (let s := { resetting with startup := ready.startup }
     s.alive = true ∧ s.link.tx = .reply (.reply 3 0x70 .ok []) [] ∧ s.startup.resetPending = false ∧
      s.table.entries = [] ++ ⟨3, 0x70, .sending, false⟩ :: []) ∧
    (let s : State := { ready with link := { ready.link with tx := .reply (.refusal 3 0 .badFormat) [] } }
     s.alive = true ∧ s.link.tx = .reply (.refusal 3 0 .badFormat) []) ∧ ready.link.tx = .free ∧
    ((busy ready).alive = true ∧ (busy ready).link.tx = .notice 0 []) := by decide +kernel

/-- A disabled kind; a merge at count 65535; the 32nd record and the loss after it. -/
theorem witness_NoticeProduced : (BitVec.getLsbD (0x180 : BitVec 9) (NoticeKind.drained.num - 1) = false) ∧
    Notices.reset.enable.getLsbD (NoticeKind.lost.num - 1) = true ∧
    (let q := (noticing 4 [record .drained (.sent 8), record .drained .new 65535]).notices
     q.records = [record .drained (.sent 8)] ++ record .drained .new 65535 :: [] ∧
      ∀ x ∈ [record .drained (.sent 8)], ¬(x.state = .new ∧ x.kind = .drained ∧ x.source = .channel 0)) ∧
    (let q := (noticing 4 (List.replicate 31 (record .drained .new))).notices
     q.records.length < 32 ∧ ∀ x ∈ q.records, ¬(x.state = .new ∧ x.kind = .starved ∧ x.source = .channel 0)) ∧
    32 ≤ (noticing 4 (List.replicate 32 (record .drained .new))).notices.records.length := by decide +kernel

theorem witness_AcknowledgementAndExpiry :
    (let s := noticing 2 [record .drained (.sent 7), record .starved (.sent 8)]
     s.listening = true ∧ (∀ r ∈ s.notices.records, r.state ≠ .sent 6) ∧
      s.notices.records = [record .drained (.sent 7)] ++ record .starved (.sent 8) :: [] ∧
      (∀ x ∈ [record .drained (.sent 7)], x.state ≠ .sent 8) ∧ s.notices.tally = 0 ∧ s.alive = true ∧
      s.notices.timer = .running 0) ∧
    ({ (noticing 2 [record .drained (.sent 7)]).notices with tally := 1 }).tally ≠ 0 := by decide +kernel

/-- 16 marks pass, 17 do not; position length − 1 passes. -/
theorem witness_MarkListIsChecked : (markList 64 (List.replicate 16 ⟨63, 0x14, 7⟩)).isSome = true ∧
    markList 64 (List.replicate 17 ⟨63, 0x14, 7⟩) = none ∧ markList 64 [⟨64, 0x14, 7⟩] = none ∧
    markList 64 [⟨0, 0x00, 255⟩] = none := by decide +kernel

/-- 96 records. -/
def fullMap : State := holding ((List.range 96).map (fun k => seg (BitVec.ofNat 8 (k + 1)) .ready 1 1 [k] 0))

/-- No block left. -/
def noBlock : State :=
  { ready with pool := { ready.pool with free := [], map := [seg 3 .ready 8192 8192 (List.range 512) 0] } }

/-- Length 1 and 8192, id 254; a length of 0; each refusal. -/
theorem witness_CreateSegment : ready.takes 1 = true ∧
    markList 8192 ([] : List RawMark) = some [] ∧ ready.segment? 254 = none ∧ ready.pool.map.length < 96 ∧
    (8192 + 63) / 64 ≤ ready.pool.free.length ∧ markList 1 [⟨1, 0, 0⟩] = none ∧
    (let s := holding [seg 3 .ready 1 1 [0] 0]; s.takes 1 = true ∧ (s.segment? 3).isSome = true) ∧
    (fullMap.takes 1 = true ∧ fullMap.segment? 254 = none ∧ 96 ≤ fullMap.pool.map.length) ∧
    (noBlock.takes 1 = true ∧ noBlock.segment? 254 = none ∧ noBlock.pool.map.length < 96 ∧
      noBlock.pool.free.length < (1 + 63) / 64) := by decide +kernel

/-- The write that ends at the length, one sample beyond it, and each refusal. -/
theorem witness_WriteSamples : ready.takes 1 = true ∧ ready.segment? 9 = none ∧
    (let s := holding [seg 3 .filling 3 2 [0] 0]
     s.takes 1 = true ∧ (s.segment? 3).map (fun g => (g.state, g.fill, g.length)) = some (.filling, 2, 3) ∧
      3 < 2 + ([1, 2] : List Sample).length ∧ 2 + ([1] : List Sample).length ≤ 3 ∧ (3 : Half).toNat ≠ 2) ∧
    (let s := holding [seg 3 .ready 3 3 [0] 0]; s.takes 1 = true ∧ (s.segment? 3).map (fun g => g.state) ≠ some .filling) := by
  decide +kernel

/-- Two blocks, filled up to their last position. -/
theorem witness_WrittenSamplesReadBack : Memory.wf ([(0, 1)] : Memory) = true ∧ ([5, 3] : List Nat).Nodup ∧
    126 + ([1, 2] : List Sample).length ≤ 64 * ([5, 3] : List Nat).length := by decide +kernel

/-- Each state and reference count that the two requests tell apart. -/
theorem witness_SealAndDelete :
    (∀ g ∈ [seg 3 .filling 3 2 [0] 0, seg 3 .filling 3 3 [0] 1, seg 3 .ready 3 3 [0] 1, seg 3 .loading 3 0 [0] 1,
        seg 3 .ready 3 3 [0] 1 true],
      (holding [g]).takes 1 = true ∧ (holding [g]).pool.map = [] ++ g :: [] ∧ g.id = 3 ∧ (holding [g]).segment? 4 = none) := by
  decide +kernel

theorem witness_ReferencesTakenAndReleased : (holding [seg 3 .ready 3 3 [0] 1 true, seg 4 .ready 3 3 [1] 2]).pool.map =
    [seg 3 .ready 3 3 [0] 1 true] ++ seg 4 .ready 3 3 [1] 2 :: [] ∧ 1 < (seg 4 .ready 3 3 [1] 2).refs ∧
    (seg 3 .ready 3 3 [0] 1 true).refs = 1 ∧ (seg 3 .ready 3 3 [0] 1 true).retiring = true := by decide +kernel

/-- Channel and generator 3 and 4; a STOPPED and a DRAINED channel. -/
theorem witness_ConfigureChannel : ready.takes 1 = true ∧ 3 < (4 : Byte).toNat ∧ (3 : Byte).toNat = (3 : Fin 4).val ∧
    (ready.channel 3).state = .stopped ∧ (ready.setChannel 3 (player .drained [])).takes 1 = true ∧
    ((ready.setChannel 3 (player .drained [])).channel 3).state ≠ .stopped := by decide +kernel

/-- The largest values in range, and each refusal. -/
theorem witness_EnqueueRequest :
    (let f : EnqueueFields := ⟨3, 254, 65535, 7, 7, 3, 3⟩
     let e : Entry := { entry 254 with
      repeats := 65535, start := .onTrigger 7, untilTrig := some 7, generator := some 3 }
     f.channel.toNat < 4 ∧ f.segment ≠ 0 ∧ f.segment ≠ 255 ∧ f.start.toNat < 8 ∧ f.untilTrig.toNat < 8 ∧ f.generator.toNat < 4 ∧
      f.options.toNat < 4 ∧ (3 : Fin 4).val = f.channel.toNat ∧ e.endAction = .rest ∧ e.notify = true) ∧
    (let s := (holding [seg 254 .filling 3 0 [0] 0]).setChannel 3 (player .drained [])
     s.takes 1 = true ∧ (s.channel 3).queue.length < 16 ∧ (s.channel 3).state = .drained ∧
      (s.segment? 254).map (fun g => (g.state, g.retiring)) = some (.filling, false)) ∧
    (ready.takes 1 = true ∧ ready.segment? 254 = none) ∧
    16 ≤ ((ready.setChannel 3 (player .stopped (List.replicate 16 (entry 1)))).channel 3).queue.length ∧
    ((holding [seg 254 .failed 3 0 [0] 1 true]).segment? 254).map (fun g => g.state) = some .failed ∧
    ((holding [seg 254 .ready 3 3 [0] 1 true]).segment? 254).map (fun g => g.retiring) = some true := by decide +kernel

theorem witness_HeadEvaluation : ((ready.setChannel 0 (player .playing [])).channel 0).queue = [] ∧
    ({ entry 3 with start := .onTrigger 7 }).start = .onTrigger 7 ∧
    (∀ st ∈ [SegState.ready, .filling, .loading, .failed],
      let s := (holding [seg 3 st 3 0 [0] 1]).setChannel 0 (player .drained [entry 3])
      (s.channel 0).queue = entry 3 :: [] ∧ (entry 3).start = .immediate ∧ (s.segment? 3).map (fun g => g.state) = some st) ∧
    (∀ refs ∈ [1, 2], (holding [seg 3 .loading 3 0 [0] refs]).pool.map = [] ++ seg 3 .loading 3 0 [0] refs :: []) := by
  decide +kernel

/-- Masks 1, 15 and 16. -/
theorem witness_StartRequest : ready.takes 1 = true ∧ 16 ≤ (16 : Byte).toNat ∧ (15 : Byte).toNat < 16 ∧
    (∀ c ∈ named 15, (ready.channel c).state = .stopped) ∧
    (let s := ready.setChannel 3 (player .drained []); s.takes 1 = true ∧ ∃ c ∈ named 8, (s.channel c).state ≠ .stopped) ∧
    (let s := working ready [job (.load 14 70) .active]; s.takes 1 = true ∧ ∀ j ∈ s.jobs, j.origin ≠ .request 1 false) ∧
    (0 : Fin 4) ∈ named 15 ∧ (1 : Fin 4) ∉ named 1 ∧ named 15 ≠ [] ∧ (∀ c, StartStep.tick ⟨0, false⟩ ≠ .channel c) ∧
    ready.alive = true := by
  decide +kernel

theorem witness_StopRequests :
    (let s := ready.setChannel 3 (player .playing [entry 3 true])
     s.takes 1 = true ∧ (3 : Fin 4) ∈ named 8 ∧ (0 : Fin 4) ∉ named 8 ∧ (s.channel 3).state = .playing ∧
      (s.channel 3).queue = entry 3 true :: [] ∧ (s.channel 0).state = .stopped ∧ (0 : Fin 4) ∈ named 15) ∧
    (let s := ready.setChannel 3 (player .starved [entry 3 true])
     s.takes 1 = true ∧ (s.channel 3).state ≠ .stopped ∧ (s.channel 3).state ≠ .playing) := by decide +kernel

theorem witness_ReleaseRequest : ready.takes 1 = true ∧ (ready.channel 3).state = .stopped ∧
    (let s := ready.setChannel 3 (player .starved [entry 3 true])
     s.takes 1 = true ∧ (s.channel 3).state = .starved ∧ (s.channel 3).queue = entry 3 true :: []) := by decide +kernel

theorem witness_FlushRequest : ready.takes 1 = true ∧ (ready.channel 3).state ≠ .waiting ∧
    (let s := ready.setChannel 3 (player .waiting [{ entry 3 with start := .onTrigger 1 }])
     s.takes 1 = true ∧ (s.channel 3).state = .waiting) := by decide +kernel

/-- A last and an earlier position; a pass end that completes, one that does not, one that stops; a head that holds a delivery back;
a delivery of an instant at which the channel has emitted; two deliveries of one instant. -/
theorem witness_TickDelivery :
    (∀ p ∈ [(0, false, false), (2, false, false), (2, true, false), (2, true, true)],
      let e : Entry := { entry 7 true with repeats := 0, cursor := p.1, released := p.2.1, stopPending := p.2.2 }
      let s := { (holding [seg 7 .ready 3 3 [0] 1]).setChannel 0 (player .playing [e]) with deliveries := [⟨0, 0, 1, 1⟩] }
      s.alive = true ∧ s.deliveries = [] ++ ⟨0, 0, 1, 1⟩ :: [] ∧ (s.channel 0).state = .playing ∧
        (s.channel 0).activeGen = 0 ∧ (s.channel 0).queue = e :: [] ∧
        s.segment? 7 = some (seg 7 .ready 3 3 [0] 1) ∧ ∀ m ∈ (seg 7 .ready 3 3 [0] 1).marks, m.position ≠ e.cursor) ∧
    ready.alive = true ∧ (∀ d ∈ ready.deliveries, ¬(d.gen = 0 ∧ d.chan = 0)) ∧
    (let s := (playing7 0 false).setChannel 0 (player .playing [{ entry 7 true with spent := 1 }])
     s.deliveries = [] ++ ⟨0, 0, 1, 1⟩ :: [] ∧ (s.channel 0).activeGen = 0 ∧
      (s.channel 0).queue = { entry 7 true with spent := 1 } :: []) ∧
    (let s : State := { ready with deliveries := [⟨0, 0, 1, 1⟩] }
     s.deliveries = [] ++ ⟨0, 0, 1, 1⟩ :: [] ∧ (s.channel 0).state ≠ .playing ∧ (s.channel 0).queue = []) ∧
    (let s := (playing7 0 false).modChannel 0 (fun ch => { ch with emittedAt := [1] })
     s.deliveries = [] ++ ⟨0, 0, 1, 1⟩ :: [] ∧ 1 ∈ (s.channel 0).emittedAt ∧ (∀ e ∈ (s.channel 0).queue.head?, e.spent = 0)) ∧
    twoTicks.alive = true ∧ twoTicks.deliveries = [] ++ ⟨0, 0, 1, 1⟩ :: [⟨1, 0, 4, 1⟩] ∧
    twoTicks.deliveries = [⟨0, 0, 1, 1⟩] ++ ⟨1, 0, 4, 1⟩ :: [] ∧ 1 ∉ ((playing7 0 false).channel 0).emittedAt := by
  decide +kernel

theorem witness_MarksAct : (⟨0, .m1, .none, some 7⟩ : Mark).fire = some 7 ∧ (ready.trigger 7).mode = .off ∧
    ((ready.setTrigger 7 { Trigger.reset with mode := .soft }).trigger 7).mode ≠ .off ∧
    (⟨0, .m0, .pulse, none⟩ : Mark).fire = none ∧
    (∀ p ∈ [(1, false), (2, false), (2, true)],
      let s := playing7 p.1 p.2
      s.alive = true ∧ s.deliveries = [] ++ ⟨0, 0, 1, 1⟩ :: [] ∧ (s.channel 0).state = .playing ∧ (s.channel 0).activeGen = 0 ∧
        (s.channel 0).queue.map (fun e => (e.spent, e.stopPending)) = [(0, false)] ∧
        (s.segment? 7).map (fun x => x.marks.map (fun m => m.position)) = some [2]) := by decide +kernel

theorem witness_FiringsReachTheChannels :
    (let e : Entry := { entry 3 with start := .onTrigger 7 }
     let s := ((holding [seg 3 .ready 3 3 [0] 2]).setChannel 0 (player .waiting [e])).setChannel 1
      (player .starved [{ entry 3 true with untilTrig := some 7 }])
     (s.channel 0).state = .waiting ∧ (s.channel 0).queue = e :: [] ∧ (s.segment? 3).map (fun g => g.state) = some .ready ∧
      (s.channel 1).state = .starved ∧ (s.channel 2).waitsOn ≠ some 7 ∧ (s.channel 2).untilOf ≠ some 7) ∧
    (∀ c, (ready.channel c).waitsOn ≠ some 7) := by decide +kernel

/-- Dividers 24 and 16,777,216, and those beside them. -/
theorem witness_SetRate : ready.takes 1 = true ∧ (3 : Byte).toNat = (3 : Fin 4).val ∧ 24 ≤ (24 : Word).toNat ∧
    (16777216 : Word).toNat ≤ 16777216 ∧ (23 : Word).toNat < 24 ∧ 16777216 < (16777217 : Word).toNat := by decide +kernel

theorem witness_RunAndHaltRates : ready.takes 1 = true ∧ (15 : Byte) ≠ 0 ∧ (15 : Byte).toNat < 16 ∧ 16 ≤ (16 : Byte).toNat := by
  decide +kernel

theorem witness_TickIsMade : ready.alive = true ∧ (ready.generator 3).running = false ∧
    ((ready.setGenerator 3 { Generator.reset with running := true }).generator 3).running = true := by decide +kernel

/-- Divider 24 and 23, confirm counts 0, 1, 8 and 9. -/
theorem witness_SetInputs : ready.takes 1 = true ∧ 24 ≤ (24 : Half).toNat ∧ (23 : Half).toNat < 24 ∧ 1 ≤ (1 : Byte).toNat ∧
    (8 : Byte).toNat ≤ 8 ∧ (0 : Byte).toNat < 1 ∧ 8 < (9 : Byte).toNat := by decide +kernel

/-- The largest values in range; a MATCH trigger with an empty mask. -/
theorem witness_DefineTrigger : ready.takes 1 = true ∧
    (let f : TriggerFields := ⟨7, 3, 0, 0, 2, 255, 2⟩
     f.trigger.toNat < 8 ∧ f.mode.toNat < 4 ∧ f.edge.toNat < 3 ∧ f.prescale ≠ 0 ∧ ¬((f.mode = 1 ∨ f.mode = 2) ∧ f.mask = 0) ∧
      f.trigger.toNat = (7 : Fin 8).val ∧ f.mode.toNat = TrigMode.soft.num ∧ f.edge.toNat = Edge.any.num) ∧
    (let f : TriggerFields := ⟨7, 2, 0, 0, 2, 255, 0⟩; (f.mode = 1 ∨ f.mode = 2) ∧ f.mask = 0) := by decide +kernel

theorem witness_FireRequest : ready.takes 1 = true ∧ 7 < (8 : Byte).toNat ∧ (ready.trigger 7).mode = .off ∧
    (let s := ready.setTrigger 7 { Trigger.reset with mode := .matching }; s.takes 1 = true ∧ (s.trigger 7).mode ≠ .off) := by
  decide +kernel

theorem witness_SampleIsTaken : ready.alive = true ∧ ready.trig.sampled = false ∧ (counting 0).alive = true ∧
    (counting 0).trig.sampled = true ∧ (∀ k, (ready.trigger k).mode = .off) := by decide +kernel

/-- Three and four jobs; S31 in each state that SAVE tells apart; a label of 12 and one of 13 characters. -/
theorem witness_SaveRequest : library.takes 1 = true ∧ library.jobs.length < 4 ∧ (31 : Byte).toNat = (31 : Fin 32).val ∧
    (List.replicate 12 (0x7E : Byte)).length ≤ 12 ∧ ¬(List.replicate 13 (0x7E : Byte)).length ≤ 12 ∧
    (library.slot 31).freeze = false ∧ (library.slot 31).lock = .unlocked ∧ (library.slot 31).stored = .blank ∧
    (library.slot 31).saveCount < 100000 ∧ (library.slot 14).stored ≠ .blank ∧ library.segment? 26 = none ∧
    (library.segment? 25).map (fun g => (g.state, g.retiring)) = some (.ready, false) ∧
    (let s := working library (List.replicate 4 (job (.erase 3) .queued)); s.takes 1 = true ∧ 4 ≤ s.jobs.length) ∧
    (let s := working library [job (.erase 31) .active]; s.takes 1 = true ∧ ∃ j ∈ s.jobs, j.work.slot? = some 31) ∧
    (∀ x ∈ [{ Slot.shipped with freeze := true }, { Slot.shipped with lock := .locked }, { Slot.shipped with saveCount := 100000 }],
      (library.setSlot 31 x).takes 1 = true) := by decide +kernel

theorem witness_LoadRequest : library.takes 1 = true ∧ library.jobs.length < 4 ∧ (library.slot 14).stored = .stored ∧
    (library.slot 13).stored ≠ .stored ∧ library.segment? 254 = none ∧ library.pool.map.length < 96 ∧
    ((library.slot 14).length + 63) / 64 ≤ library.pool.free.length ∧ (library.segment? 25).isSome = true ∧
    (let s := fullMap.setSlot 14 (stored [7])
     s.takes 1 = true ∧ (s.slot 14).stored = .stored ∧ s.segment? 254 = none ∧ 96 ≤ s.pool.map.length) ∧
    (let s := noBlock.setSlot 14 (stored [7])
     s.takes 1 = true ∧ s.segment? 254 = none ∧ s.pool.map.length < 96 ∧ s.pool.free.length < ((s.slot 14).length + 63) / 64) := by
  decide +kernel

theorem witness_OtherStoreRequests : library.takes 1 = true ∧ library.jobs.length < 4 ∧ (∀ j ∈ library.jobs, j.work.slot? ≠ some 14) ∧
    (library.slot 14).freeze = false ∧ (library.slot 14).lock = .unlocked ∧ (∀ j ∈ library.jobs, j.work.isPlan ≠ true) ∧
    planCheck ⟨7, 1, [.run 1], []⟩ = none ∧ planCheck ⟨7, 1, [.run 0], []⟩ = some (some 0, 2) ∧
    (let s := working library [job .clearPlan .active]; s.takes 1 = true ∧ ∃ j ∈ s.jobs, j.work.isPlan = true) ∧
    (1 : Byte).toNat = Lock.locked.num ∧ 1 < (2 : Byte).toNat ∧ 32 ≤ (32 : Byte).toNat := by decide +kernel

/-- A record that passes, and one for each check. -/
theorem witness_PlanRecordIsChecked :
    planCheck ⟨7, 4, [.load ⟨0, 1⟩, .config ⟨1, 0, 0⟩, .enqueue ⟨0, 1, 0, 0x80, 255, 255, 0⟩, .start 1], []⟩ = none ∧
    planCheck ⟨7, 0, [], []⟩ = some (none, 1) ∧ planCheck ⟨8, 1, [.run 1], []⟩ = some (none, 1) ∧
    planCheck ⟨7, 25, List.replicate 25 (.run 1), []⟩ = some (none, 1) ∧ planCheck ⟨7, 2, [.run 1], [9]⟩ = some (some 1, 2) ∧
    planCheck ⟨7, 2, [.load ⟨0, 1⟩, .load ⟨1, 1⟩], []⟩ = some (some 1, 3) ∧
    planCheck ⟨7, 1, [.enqueue ⟨0, 1, 0, 0x80, 255, 255, 0⟩], []⟩ = some (some 0, 4) ∧
    planCheck ⟨7, 18, .load ⟨0, 1⟩ :: List.replicate 17 (.enqueue ⟨0, 1, 0, 0x80, 255, 255, 0⟩), []⟩ = some (some 17, 5) ∧
    planCheck ⟨7, 2, [.start 1, .config ⟨0, 0, 0⟩], []⟩ = some (some 1, 6) := by decide +kernel

theorem witness_AcceptanceAndSelection : ready.jobs = [] ∧
    (let s := working ready [job (.erase 12) .active, job (.save 3 25 []) .queued]
     s.jobs = [] ++ job (.erase 12) .active :: [job (.save 3 25 []) .queued] ∧ (14 : Fin 32) ≠ 12 ∧
      (job (.erase 12) .active).suspensions < 8 ∧ (∀ j ∈ s.jobs, j.state ≠ .suspended) ∧ ∃ j ∈ s.jobs, j.state = .active) ∧
    (let s := working ready [job (.erase 12) .suspended, job (.save 3 25 []) .queued, job (.load 14 70) .queued]
     (∀ j ∈ s.jobs, j.state ≠ .active) ∧ (∃ e ∈ s.jobs, e.state = .suspended) ∧
      s.jobs = [job (.erase 12) .suspended, job (.save 3 25 []) .queued] ++ job (.load 14 70) .queued :: []) ∧
    (let s := working ready [job (.save 3 25 []) .queued, job (.erase 12) .suspended]
     s.jobs = [job (.save 3 25 []) .queued] ++ job (.erase 12) .suspended :: []) ∧
    (∀ x ∈ (working ready [job (.save 3 25 []) .queued]).jobs, x.state = .queued) := by decide +kernel

theorem witness_JobCompletions :
    (let s := working library [job (.save 20 25 []) .active]
     s.alive = true ∧ s.jobs = [] ++ job (.save 20 25 []) .active :: [] ∧ (s.segment? 25).isSome = true ∧
      s.table.entries = [] ++ ⟨9, 0x60, .awaiting, false⟩ :: []) ∧
    (∀ w ∈ [Work.erase 14, .setLock 14 .locked, .savePlan ⟨7, []⟩, .clearPlan],
      (working library [job w .active]).jobs = [] ++ job w .active :: [] ∧ (job w .active).state = .active) ∧
    (⟨9, 0x60, .awaiting, true⟩ : Pending).orphaned = true := by decide +kernel

/-- One block (no transfer before the completion) and three; refs 1 and 2; a check that matches and one that does not. -/
theorem witness_LoadTransfersAndCompletes :
    (let s := loading 0 [4] [7, 8, 9]
     s.alive = true ∧ s.jobs = [] ++ job (.load 14 70) .active :: [] ∧
      (s.segment? 70).map (fun g => (g.blocks.length, g.fill / 64 + 1, g.refs)) = some (1, 1, 1) ∧
      checkValue 3 [7, 8, 9] [] = (s.slot 14).check ∧ checkValue 3 [7, 8, 1] [] ≠ (s.slot 14).check ∧
      (job (.load 14 70) .active).origin = .request 9 false ∧
      (let t : State := { s with jobs := [{ job (.load 14 70) .active with origin := .plan }] }
       t.jobs = [] ++ { job (.load 14 70) .active with origin := .plan } :: [])) ∧
    ((loading 64 [0, 1, 2] (List.replicate 192 0)).segment? 70).map (fun g => decide (g.fill / 64 + 1 < g.blocks.length)) = some true ∧
    ((loading 0 [4] [7]).takeRef 70).segment? 70 = some { seg 70 .loading 1 0 [4] 2 with origin := .slot 14 } := by decide +kernel

theorem witness_CancelRequest :
    (let s := working library [job (.erase 14) .active]
     s.takes 1 = true ∧ (∀ j ∈ s.jobs, j.origin ≠ .request 8 false) ∧ s.jobs = [] ++ job (.erase 14) .active :: [] ∧
      (job (.erase 14) .active).origin = .request 9 false ∧ ∃ e ∈ s.table.entries, e.tag = 9 ∧ e.orphaned = false) ∧
    (working library [job (.setLock 14 .locked) .active]).takes 1 = true := by decide +kernel

theorem witness_FreezeRequest : library.takes 1 = true ∧ 32 ≤ (32 : Byte).toNat ∧ (31 : Byte).toNat = (31 : Fin 32).val ∧
    (library.slot 31).freeze = false ∧ (library.slot 31).lock = .unlocked ∧
    (∀ x ∈ [{ Slot.shipped with lock := .locked }, { Slot.shipped with freeze := true }],
      (library.setSlot 31 x).takes 1 = true ∧ (library.setSlot 31 x).slot 31 = x) := by decide +kernel

theorem witness_LockedSlotKeepsContent :
    (let s := working (library.setSlot 14 { stored [7] with lock := .locked }) [job (.load 14 70) .active]
     s.jobsFit = true ∧ (s.slot 14).lock = .locked ∧ (s.slot 14).freeze = false) ∧
    (∃ t, exec (.blockTransfer []) (working library []) = .next t) ∧ (∀ v, Instr.syncByte ≠ .powerOn v) ∧
    (∃ t, exec (.start 1 ⟨.fields 1, [.tick ⟨0, false⟩]⟩) ready = .next t) ∧
    (∀ cells, Instr.start 1 ⟨.fields 1, [.tick ⟨0, false⟩]⟩ ≠ .blockTransfer cells ∧
      Instr.start 1 ⟨.fields 1, [.tick ⟨0, false⟩]⟩ ≠ .loadCompletion cells ∧
      ∀ tag run, Instr.start 1 ⟨.fields 1, [.tick ⟨0, false⟩]⟩ = .start tag run → .loadCompletion cells ∉ run.course) :=
  ⟨by decide +kernel, ⟨_, rfl⟩, by decide +kernel, ⟨_, rfl⟩, fun _ => ⟨by simp, by simp, fun _ _ h => by cases h; simp⟩⟩

theorem witness_ScanAndPlanRun :
    (let s : State := { library with startup := .reset .pin }
     s.alive = true ∧ s.startup.phase = .scanning ∧ s.store.plan.record = none) ∧ ready.startup.phase ≠ .scanning ∧
    (let s : State := { (library.setPlan ⟨some ⟨6, [.load ⟨14, 5⟩]⟩, .none⟩) with startup := .reset .pin }
     s.store.plan.operation = .none ∧ s.store.plan.record = some ⟨6, [.load ⟨14, 5⟩]⟩ ∧
      (6 : Byte).getLsbD s.startup.cause.num = true ∧ (s.offerLoad ⟨14, 5⟩ .plan).isOk = true ∧
      (s.offerLoad ⟨13, 5⟩ .plan).isOk = false) ∧
    (let s : State := { ready with
      startup := { Startup.reset .pin with phase := .plan, step := some 0 }
      store := { ready.store with plan := ⟨some ⟨7, [.run 1]⟩, .none⟩ } }
     s.startup.step = some 0 ∧ s.store.plan.record = some ⟨7, [.run 1]⟩ ∧ s.startup.phase = .plan) ∧
    (let s : State := { ready with startup := { Startup.reset .pin with phase := .plan, step := some 0 } }
     s.takesExempt 1 = true ∧ (∀ j ∈ s.jobs, j.origin ≠ .request 1 false)) ∧
    (∃ t data, ownStep (.run 1) ready = .reply t .ok data) ∧ (∃ t data, ownStart 1 ready = .reply t .ok data) ∧
    (∃ t data, ownStep (.run 0) ready = .reply t .range data) :=
  ⟨by decide +kernel, by decide +kernel, by decide +kernel, by decide +kernel, by decide +kernel, ⟨_, _, rfl⟩, ⟨_, _, rfl⟩,
    ⟨_, _, rfl⟩⟩

theorem witness_ResetAndAbortPlan : ready.takes 1 = true ∧ ready.takesExempt 1 = true ∧ ready.startup.phase ≠ .plan ∧
    (let s : State := { ready with startup := { Startup.reset .pin with phase := .plan, step := some 23, planStarted := 15 } }
     s.takesExempt 1 = true ∧ s.startup.phase = .plan ∧ s.startup.step = some 23) := by decide +kernel

/-- Windows 4 and 5, enable sets 1FFh and 200h. -/
theorem witness_SetNotices : ready.takes 1 = true ∧ (4 : Byte).toNat ≤ 4 ∧ 4 < (5 : Byte).toNat ∧ (0x1FF : Half).toNat < 512 ∧
    512 ≤ (0x200 : Half).toNat := by decide +kernel

theorem witness_GetPart : State.reset.takesExempt 1 = true := by decide +kernel

theorem witness_ShortReports : ready.takesExempt 1 = true ∧ 7 < (8 : Byte).toNat ∧ (7 : Byte).toNat = (7 : Fin 8).val ∧
    1 < (2 : Byte).toNat ∧ (1 : Byte).toNat ≤ 1 := by decide +kernel

/-- Block index 127 of 128 blocks and 128; channel 3 and 4, slot 31 and 32. -/
theorem witness_LongReports :
    (let s := holding [seg 254 .ready 8192 8192 (List.range 128) 0]
     s.takesExempt 1 = true ∧ (s.segment? 254).map (fun g => g.blocks.length) = some 128 ∧ (127 : Byte).toNat < 128 ∧
      127 < (128 : Byte).toNat ∧ s.segment? 1 = none) ∧
    library.takesExempt 1 = true ∧ 3 < (4 : Byte).toNat ∧ (3 : Byte).toNat = (3 : Fin 4).val ∧ 31 < (32 : Byte).toNat ∧
    (31 : Byte).toNat = (31 : Fin 32).val ∧ library.jobs.length ≤ 4 ∧ (∀ m, (library.slot m).label.length ≤ 12) := by decide +kernel

/-- A state with a part in every block that each of the invariants holds of, and a step from it. -/
def atWork : State :=
  { (working (((holding [seg 3 .ready 1 1 [0] 2]).setChannel 0 (player .playing [entry 3 true])).setSlot 20
      { Slot.shipped with operation := .save }) [job (.save 20 3 []) .active]) with
    pending := [.saveCompletion]
    notices := { Notices.reset with nextSeq := 1, timer := .running 0, records := [record .drained (.sent 0), record .starved .new] }
    link := (busy ready).link }

/-- What PoolStaysWhole, ChannelsStayFormed, NoticeQueueStaysArranged and SoundStatesStaySound assume. -/
theorem witness_invariants : Memory.wf atWork.pool.mem = true ∧ atWork.pool.partitioned ∧
    atWork.pool.map.Pairwise (fun g h => g.id.toNat < h.id.toNat) ∧ atWork.channelsFormed = true ∧
    atWork.notices.arranged = true ∧ atWork.shaped = true ∧ atWork.referenced = true ∧ atWork.withinCapacity = true ∧
    atWork.jobsFit = true ∧ atWork.tagsDistinct = true ∧ atWork.settled = true := by decide +kernel

theorem witness_invariant_step : ∃ t, step atWork = .next t := ⟨_, rfl⟩

end Sys2Proof.Tests
end

