-- ==== Sys2Proof/Proofs/CreateSegment.lean ====
section
/-!
PROOFS. CREATE_SEGMENT (spec 01, R17; O18): where a new record stands in the segment map, what the owner answers, the event of the
request.
-/

namespace Sys2Proof.Machine

/-! ### The segment map after a new record -/

/-- A search that the new record does not pass does not see it. -/
theorem find?_insertSegment_of_neg {p : Segment → Bool} {g : Segment} (hg : p g = false) (m : List Segment) :
    (insertSegment g m).find? p = m.find? p := by
  induction m with
  | nil => simp [insertSegment, hg]
  | cons x xs ih =>
    unfold insertSegment
    split
    · simp [List.find?_cons, hg]
    · simp [List.find?_cons, ih]

/-- A search that no old record passes finds the new one. -/
theorem find?_insertSegment_of_new {p : Segment → Bool} {g : Segment} (hg : p g = true) {m : List Segment}
    (hm : m.find? p = none) : (insertSegment g m).find? p = some g := by
  induction m with
  | nil => simp [insertSegment, hg]
  | cons x xs ih =>
    unfold insertSegment
    split
    · simp [hg]
    · obtain ⟨hx, hxs⟩ : ¬p x = true ∧ xs.find? p = none := by simpa using hm
      rw [List.find?_cons_of_neg hx, ih hxs]

@[simp] theorem insertSegment_length (g : Segment) (m : List Segment) : (insertSegment g m).length = m.length + 1 :=
  (insertSegment_perm g m).length_eq

theorem State.segment?_createSegment_self {s : State} {id : Byte} (h : s.segment? id = none) (st : SegState) (n : Nat)
    (ms : List Mark) (k : Nat) (o : Origin) :
    (s.createSegment id st n ms k o).segment? id = some
      { id := id, state := st, length := n, fill := 0, blocks := s.pool.free.take (blocksFor n), marks := ms, refs := k,
        retiring := false, origin := o } :=
  find?_insertSegment_of_new (by simp) h

theorem State.segment?_createSegment_other (s : State) {id k : Byte} (h : k ≠ id) (st : SegState) (n : Nat)
    (ms : List Mark) (r : Nat) (o : Origin) : (s.createSegment id st n ms r o).segment? k = s.segment? k :=
  find?_insertSegment_of_neg (by simp [h.symm]) s.pool.map

/-! ### The checks (R17) -/

/-- The RANGE check passes exactly with the id and the length in range and a mark list that R5 accepts, sorted. -/
theorem createOf_eq_some {f : CreateFields} {marks : List Mark} : createOf f = some marks ↔
    (f.id ≠ 0 ∧ f.id ≠ 255 ∧ 1 ≤ f.length.toNat ∧ f.length.toNat ≤ Config.maxLength) ∧
      markList f.length.toNat f.marks = some marks := by
  simp [createOf, idOk, and_assoc]

theorem createCheck_idInUse {s : State} {id : Byte} (h : (s.segment? id).isSome = true) (n : Nat) :
    createCheck id n s = some .idInUse := by
  simp [createCheck, h]

theorem createCheck_mapFull {s : State} {id : Byte} (h : s.segment? id = none) (hm : 96 ≤ s.pool.map.length) (n : Nat) :
    createCheck id n s = some .mapFull := by
  simp [createCheck, h, Config.mapRecords, hm]

theorem createCheck_poolFull {s : State} {id : Byte} {n : Nat} (h : s.segment? id = none) (hm : s.pool.map.length < 96)
    (hp : s.pool.free.length < blocksFor n) : createCheck id n s = some .poolFull := by
  simp [createCheck, h, Config.mapRecords, Nat.not_le.mpr hm, hp]

theorem createCheck_pass {s : State} {id : Byte} {n : Nat} (h : s.segment? id = none) (hm : s.pool.map.length < 96)
    (hp : blocksFor n ≤ s.pool.free.length) : createCheck id n s = none := by
  simp [createCheck, h, Config.mapRecords, Nat.not_le.mpr hm, Nat.not_lt.mpr hp]

/-! ### What the owner answers -/

theorem ownCreate_range {f : CreateFields} (h : createOf f = none) (s : State) : ownCreate f s = .refused s .range := by
  simp [ownCreate, h]

theorem ownCreate_check {f : CreateFields} {marks : List Mark} {s : State} {st : Status} (h : createOf f = some marks)
    (hc : createCheck f.id f.length.toNat s = some st) : ownCreate f s = .refused s st := by
  simp [ownCreate, h, hc]

theorem ownCreate_ok {f : CreateFields} {marks : List Mark} {s : State} (h : createOf f = some marks)
    (hc : createCheck f.id f.length.toNat s = none) :
    ownCreate f s = .reply (s.createSegment f.id .filling f.length.toNat marks 0 .host) .ok
      (u8 (blocksFor f.length.toNat) ++ u16 (s.pool.free.length - blocksFor f.length.toNat)) := by
  simp [ownCreate, h, hc, State.createSegment]

/-! ### The event of the request -/

/-- A CREATE_SEGMENT that is taken is answered as its owner says, `u` being the state with the owner's effects made. -/
theorem exec_createSegment_answered {tag : Byte} {f : CreateFields} {s u : State} {st : Status} {data : List Byte}
    (ht : s.takes tag = true) (ho : ∀ l t, ownCreate f (s.withFront l t) = .reply (u.withFront l t) st data)
    (hul : u.link = s.link) (hut : u.table = s.table) :
    exec (.createSegment tag (.fields f)) s = .next (u.answered tag 0x10 st data) := by
  obtain ⟨hl, ha⟩ : s.listening = true ∧ s.admits tag false = true := by simpa [State.takes] using ht
  exact congrArg Host.Outcome.next (exec_answered rfl hl ha ho hul hut)

/-- A refusal of CREATE_SEGMENT changes nothing but the answer. -/
theorem exec_createSegment_refused {tag : Byte} {f : CreateFields} {s : State} {st : Status} (ht : s.takes tag = true)
    (ho : ∀ l t, ownCreate f (s.withFront l t) = .refused (s.withFront l t) st) :
    exec (.createSegment tag (.fields f)) s = .next (s.answered tag 0x10 st []) :=
  exec_createSegment_answered ht ho rfl rfl

/-- Settles O18: one clause for each outcome of the checks. -/
theorem createSegment : Obligations.CreateSegment := by
  intro tag f s ht run refused n inRange
  have refuse {marks : List Mark} {st : Status} (ho : createOf f = some marks)
      (hc : createCheck f.id f.length.toNat s = some st) : run = refused st :=
    exec_createSegment_refused ht fun _ _ => ownCreate_check ho hc
  refine ⟨fun hbad => ?_, fun marks hr hm => ?_⟩
  · have hnone : createOf f = none := by
      refine Option.eq_none_iff_forall_ne_some.mpr fun marks ho => ?_
      obtain ⟨hr, hm⟩ := createOf_eq_some.mp ho
      rcases hbad with hbad | hbad
      · exact hbad hr
      · simp [hm] at hbad
    exact exec_createSegment_refused ht fun _ _ => ownCreate_range hnone _
  · have ho : createOf f = some marks := createOf_eq_some.mpr ⟨hr, hm⟩
    refine ⟨fun hid => refuse ho (createCheck_idInUse hid _), fun hid hmap => refuse ho (createCheck_mapFull hid hmap _),
      fun hid hmap hpool => refuse ho (createCheck_poolFull hid hmap hpool), fun hid hmap hpool => ?_⟩
    refine ⟨s.createSegment f.id .filling f.length.toNat marks 0 .host, ?_, rfl, ?_, ?_, fun k hk => ?_⟩
    · exact exec_createSegment_answered ht (fun _ _ => ownCreate_ok ho (createCheck_pass hid hmap hpool)) rfl rfl
    · exact State.segment?_createSegment_self hid ..
    · exact insertSegment_length ..
    · exact State.segment?_createSegment_other s hk ..

end Sys2Proof.Machine
end

