-- ==== Sys2Proof/Proofs/SetRate.lean ====
section
/-!
PROOFS. SET_RATE (spec 03, R62; O33): the RANGE check, what the owner answers, the event of the request.
-/

namespace Sys2Proof.Machine

/-! ### The check (R62) -/

theorem fin4_eq_some {b : Byte} {g : Fin 4} : fin4 b = some g ↔ b.toNat = g.val := by
  unfold fin4
  split
  · simp [Fin.ext_iff]
  · have hne : b.toNat ≠ g.val := by omega
    simp [hne]

theorem fin4_eq_none {b : Byte} : fin4 b = none ↔ 3 < b.toNat := by
  simp only [fin4, dite_eq_right_iff, reduceCtorEq, imp_false]
  omega

theorem rateOf_eq_some {f : RateFields} {g : Fin 4} :
    rateOf f = some g ↔ (24 ≤ f.divider.toNat ∧ f.divider.toNat ≤ 16777216) ∧ f.generator.toNat = g.val := by
  rw [rateOf, Option.ite_none_right_eq_some, fin4_eq_some, Config.minDivider, Config.maxDivider]

theorem rateOf_eq_none {f : RateFields} :
    rateOf f = none ↔ 3 < f.generator.toNat ∨ f.divider.toNat < 24 ∨ 16777216 < f.divider.toNat := by
  rw [rateOf, ite_eq_right_iff, fin4_eq_none, Config.minDivider, Config.maxDivider]
  omega

/-! ### What the owner does -/

/-- Of the generator the divider changes, and where it is RUNNING the elapsed reference periods; the tick count stays (R62). -/
theorem Generator.rerate_eq (n : Nat) (x : Generator) :
    x.rerate n = { x with divider := n, elapsed := if x.running = true then 0 else x.elapsed } := by
  cases h : x.running <;> simp [Generator.rerate, h]

theorem ownSetRate_range {f : RateFields} (h : rateOf f = none) (s : State) : ownSetRate f s = .refused s .range := by
  simp [ownSetRate, h]

theorem ownSetRate_ok {f : RateFields} {g : Fin 4} (h : rateOf f = some g) (s : State) :
    ownSetRate f s = .reply (s.modGenerator g (Generator.rerate f.divider.toNat)) .ok
      (u8 g.val ++ u32 f.divider.toNat ++ yesNo (s.generator g).running ++ u32 (s.generator g).ticks.toNat) := by
  simp [ownSetRate, h]

/-! ### The event of the request -/

/-- A SET_RATE that is taken is answered as its owner says, `u` being the state with the owner's effects made. -/
theorem exec_setRate_answered {tag : Byte} {f : RateFields} {s u : State} {st : Status} {data : List Byte}
    (ht : s.takes tag = true) (ho : ∀ l t, ownSetRate f (s.withFront l t) = .reply (u.withFront l t) st data)
    (hul : u.link = s.link) (hut : u.table = s.table) :
    exec (.setRate tag (.fields f)) s = .next (u.answered tag 0x30 st data) := by
  obtain ⟨hl, ha⟩ : s.listening = true ∧ s.admits tag false = true := by simpa [State.takes] using ht
  exact congrArg Host.Outcome.next (exec_answered rfl hl ha ho hul hut)

/-- Settles O33: one clause for each outcome of the RANGE check. -/
theorem setRate : Obligations.SetRate := by
  intro tag f s ht run
  constructor
  · intro hbad
    exact exec_setRate_answered ht (fun _ _ => ownSetRate_range (rateOf_eq_none.mpr hbad) _) rfl rfl
  · intro g hg hlo hhi x y
    have ho : rateOf f = some g := rateOf_eq_some.mpr ⟨⟨hlo, hhi⟩, hg⟩
    have hy : s.modGenerator g (Generator.rerate f.divider.toNat) = s.setGenerator g y :=
      congrArg (s.setGenerator g) (Generator.rerate_eq f.divider.toNat x)
    exact hy ▸ exec_setRate_answered ht (fun _ _ => ownSetRate_ok ho _) rfl rfl

end Sys2Proof.Machine
end

