-- ==== Sys2Proof/Proofs/DefineTrigger.lean ====
section
/-!
PROOFS. DEFINE_TRIGGER (spec 04, R79; O37): the RANGE check, the trigger after its definition, what the owner answers, the event of
the request.
-/

namespace Sys2Proof.Machine

/-! ### The check (R79) -/

theorem fin8_eq_some {b : Byte} {k : Fin 8} : fin8 b = some k ↔ b.toNat = k.val := by
  unfold fin8
  split
  · simp [Fin.ext_iff]
  · have hne : b.toNat ≠ k.val := by omega
    simp [hne]

theorem modeOf_eq_some {b : Byte} {m : TrigMode} : modeOf b = some m ↔ b.toNat = m.num := by
  unfold modeOf
  generalize b.toNat = n
  match n with
  | 0 | 1 | 2 | 3 | _ + 4 => cases m <;> simp [TrigMode.num]

theorem edgeOf_eq_some {b : Byte} {e : Edge} : edgeOf b = some e ↔ b.toNat = e.num := by
  unfold edgeOf
  generalize b.toNat = n
  match n with
  | 0 | 1 | 2 | _ + 3 => cases e <;> simp [Edge.num]

theorem TrigMode.num_lt (m : TrigMode) : m.num < 4 := by cases m <;> decide

theorem Edge.num_lt (e : Edge) : e.num < 3 := by cases e <;> decide

/-- Of the four modes, CHANGE and MATCH are the ones that need a mask; the request writes them 1 and 2. -/
theorem change_or_matching_iff {b : Byte} {m : TrigMode} (h : b.toNat = m.num) :
    (m = .change ∨ m = .matching) ↔ (b = 1 ∨ b = 2) := by
  cases m <;> simp [TrigMode.num, ← BitVec.toNat_inj] at h ⊢ <;> omega

/-- The RANGE check passes exactly with every field in range, and gives the trigger, mode and edge that the bytes name. -/
theorem definitionOf_eq_some {f : TriggerFields} {k : Fin 8} {m : TrigMode} {e : Edge} :
    definitionOf f = some (k, m, e) ↔
      (f.trigger.toNat < 8 ∧ f.mode.toNat < 4 ∧ f.edge.toNat < 3 ∧ f.prescale ≠ 0 ∧
        ¬((f.mode = 1 ∨ f.mode = 2) ∧ f.mask = 0)) ∧
      f.trigger.toNat = k.val ∧ f.mode.toNat = m.num ∧ f.edge.toNat = e.num := by
  constructor
  · intro h
    unfold definitionOf at h
    split at h
    · next k' m' e' hk hm he =>
      obtain ⟨⟨hp, hmask⟩, hkme⟩ := Option.ite_none_right_eq_some.mp h
      obtain ⟨rfl, rfl, rfl⟩ : k' = k ∧ m' = m ∧ e' = e := by simpa using hkme
      have hk := fin8_eq_some.mp hk
      have hm := modeOf_eq_some.mp hm
      have he := edgeOf_eq_some.mp he
      rw [change_or_matching_iff hm] at hmask
      exact ⟨⟨hk ▸ k'.isLt, hm ▸ m'.num_lt, he ▸ e'.num_lt, hp, hmask⟩, hk, hm, he⟩
    · cases h
  · rintro ⟨⟨-, -, -, hp, hmask⟩, hk, hm, he⟩
    rw [← change_or_matching_iff hm] at hmask
    simp only [definitionOf, fin8_eq_some.mpr hk, modeOf_eq_some.mpr hm, edgeOf_eq_some.mpr he]
    exact if_pos ⟨hp, hmask⟩

/-! ### The trigger after its definition (R79, R81) -/

/-- The definition fields take the values given, the count is 0 again, a MATCH trigger of a sampled unit takes its matched from the
levels; the fire count and the captured levels stay. -/
theorem Trigger.define_eq (t : Trigger) (m : TrigMode) (e : Edge) (f : TriggerFields) (sampled : Bool) (confirmed : Byte) :
    t.define m e f sampled confirmed = { t with
      mode := m, mask := f.mask, pattern := f.pattern, edge := e, prescale := f.prescale.toNat
      notify := decide (f.notify ≠ 0), count := 0
      matched := sampled && decide (m = .matching) && decide (confirmed &&& f.mask = f.pattern &&& f.mask) } := by
  simp [Trigger.define, Trigger.meets, bne, beq_eq_decide]

theorem u8_of_toNat_eq {b : Byte} {n : Nat} (h : b.toNat = n) : u8 n = [b] := by
  simp [u8, ← h]

/-- The definition is reported in the bytes that gave it. -/
theorem Trigger.definition_define (t : Trigger) {m : TrigMode} {e : Edge} {f : TriggerFields} (hm : f.mode.toNat = m.num)
    (he : f.edge.toNat = e.num) (sampled : Bool) (confirmed : Byte) :
    (t.define m e f sampled confirmed).definition =
      [f.mode, f.mask, f.pattern, f.edge, f.prescale] ++ yesNo (decide (f.notify ≠ 0)) := by
  simp only [Trigger.define_eq, Trigger.definition, u8_of_toNat_eq hm, u8_of_toNat_eq he, u8_of_toNat_eq rfl]
  rfl

/-! ### What the owner answers -/

theorem ownDefineTrigger_range {f : TriggerFields} (h : definitionOf f = none) (s : State) :
    ownDefineTrigger f s = .refused s .range := by
  simp [ownDefineTrigger, h]

theorem ownDefineTrigger_ok {f : TriggerFields} {k : Fin 8} {m : TrigMode} {e : Edge} (h : definitionOf f = some (k, m, e))
    {s : State} {d : Trigger} (hd : (s.trigger k).define m e f s.trig.sampled s.trig.confirmed = d) :
    ownDefineTrigger f s = .reply (s.setTrigger k d) .ok
      ([f.mode, f.mask, f.pattern, f.edge, f.prescale] ++ yesNo (decide (f.notify ≠ 0)) ++ yesNo d.matched ++
        u32 d.fires.toNat) := by
  subst hd
  obtain ⟨-, -, hm, he⟩ := definitionOf_eq_some.mp h
  simp only [ownDefineTrigger, h, Trigger.definition_define _ hm he]

/-! ### The event of the request -/

/-- A request that is not exempt from STARTING and is taken is answered as its owner says, `u` being the state with the owner's
effects made. -/
theorem exec_answered_of_takes {α : Type} {i : Instr} {tag code : Byte} {f : α} {owner : α → State → Owned} {s u : State}
    {st : Status} {data : List Byte} (hx : exec i s = .next (s.receiveFrame i))
    (hd : dispatch i = onRequest tag code false (.fields f) owner) (ht : s.takes tag = true)
    (ho : ∀ l t, owner f (s.withFront l t) = .reply (u.withFront l t) st data)
    (hul : u.link = s.link) (hut : u.table = s.table) : exec i s = .next (u.answered tag code st data) := by
  obtain ⟨hl, ha⟩ : s.listening = true ∧ s.admits tag false = true := by simpa [State.takes] using ht
  rw [hx, exec_answered hd hl ha ho hul hut]

/-- Settles O37: one clause for each outcome of the RANGE check. -/
theorem defineTrigger : Obligations.DefineTrigger := by
  intro tag f s ht run inRange
  constructor
  · intro hbad
    have hnone : definitionOf f = none :=
      Option.eq_none_iff_forall_ne_some.mpr fun _ hd => hbad (definitionOf_eq_some.mp hd).1
    exact exec_answered_of_takes rfl rfl ht (fun _ _ => ownDefineTrigger_range hnone _) rfl rfl
  · intro k m e hr hk hm he _
    have hd : definitionOf f = some (k, m, e) := definitionOf_eq_some.mpr ⟨hr, hk, hm, he⟩
    exact exec_answered_of_takes rfl rfl ht (fun _ _ => ownDefineTrigger_ok hd (Trigger.define_eq ..)) rfl rfl

end Sys2Proof.Machine
end

