-- ==== Sys2Proof/Proofs/GetPart.lean ====
section
/-!
PROOFS. GET_PART (spec 09, R177; O53): the bytes of the report, what the owner answers, the event of the request.
-/

namespace Sys2Proof.Machine

/-- The fields in the order of R177's table: part code and revision, the counts of the blocks, then the capacities. -/
theorem partReport_eq : partReport =
    [0x14, 0x0D, 0x41, 4, 4, 8, 8] ++ u16 512 ++ [64, 96] ++ u16 8192 ++ [16, 16, 32] ++ u32 100000 ++ [24, 4, 8, 8, 4] ++
      [32, 4, 120] := by
  decide

/-- The owner has no check and no effect. -/
theorem ownGetPart_eq (s : State) : ownGetPart () s = .reply s .ok partReport := rfl

/-- Settles O53: the request is exempt from STARTING, and its owner answers on the state it is given. -/
theorem getPart : Obligations.GetPart := by
  intro tag s ht
  obtain ⟨hl, ha⟩ : s.listening = true ∧ s.admits tag true = true := by simpa [State.takesExempt] using ht
  have hanswer : s.receiveFrame (.getPart tag (.fields ())) = s.answered tag 0x7D .ok partReport :=
    exec_answered rfl hl ha (fun _ _ => ownGetPart_eq _) rfl rfl
  rw [← partReport_eq, ← hanswer]
  rfl

end Sys2Proof.Machine
end

/-! ## Lists and the segment map: the first element that passes a test -/

namespace Sys2Proof.Machine

section Lists

variable {α : Type} {p : α → Bool} {xs ys : List α} {x : α}

theorem modifyFirst_append (f : α → α) (h : ∀ a ∈ xs, p a = false) (hx : p x = true) :
    modifyFirst p f (xs ++ x :: ys) = xs ++ f x :: ys := by
  induction xs with
  | nil => simp [modifyFirst, hx]
  | cons a as ih => simp [modifyFirst, h a, ih fun b hb => h b (by simp [hb])]

theorem eraseP_append_first (h : ∀ a ∈ xs, p a = false) (hx : p x = true) :
    (xs ++ x :: ys).eraseP p = xs ++ ys := by
  rw [List.eraseP_append_right _ (by simpa using h), List.eraseP_cons_of_pos hx]

theorem find?_append_first (h : ∀ a ∈ xs, p a = false) (hx : p x = true) : (xs ++ x :: ys).find? p = some x := by
  rw [List.find?_append, List.find?_eq_none.mpr (by simpa using h)]
  simp [hx]

/-- The element found splits the list before which nothing passes. -/
theorem exists_split_of_find? (h : xs.find? p = some x) :
    ∃ as bs, xs = as ++ x :: bs ∧ (∀ a ∈ as, p a = false) ∧ p x = true := by
  obtain ⟨hx, as, bs, e, ha⟩ := List.find?_eq_some_iff_append.mp h
  exact ⟨as, bs, e, fun a m => by simpa using ha a m, hx⟩

/-- What a change leaves of every element it leaves of the list, where the changed one keeps it too. -/
theorem forall_modifyFirst {P : α → Prop} {f : α → α} (h : ∀ x ∈ xs, P x)
    (hf : ∀ x, xs.find? p = some x → P x → P (f x)) : ∀ y ∈ modifyFirst p f xs, P y := by
  cases hx : xs.find? p with
  | none =>
    have ha : xs.any p = false := by simpa using List.find?_eq_none.mp hx
    rwa [modifyFirst_none f ha]
  | some x =>
    obtain ⟨as, bs, rfl, ha, hpx⟩ := exists_split_of_find? hx
    rw [modifyFirst_append f ha hpx]
    intro y hy
    rcases List.mem_append.mp hy with hy | hy
    · exact h y (by simp [hy])
    · rcases List.mem_cons.mp hy with rfl | hy
      · exact hf x hx (h x (by simp))
      · exact h y (by simp [hy])

end Lists

/-! ### The record under an id -/

/-- A record found under an id carries it. -/
theorem State.id_of_segment? {s : State} {id : Byte} {g : Segment} (h : s.segment? id = some g) : g.id = id := by
  simpa using List.find?_some h

theorem State.mem_of_segment? {s : State} {id : Byte} {g : Segment} (h : s.segment? id = some g) : g ∈ s.pool.map :=
  List.mem_of_find?_eq_some h

theorem find?_modifyFirst_id {f : Segment → Segment} (hf : ∀ g, (f g).id = g.id) (id k : Byte) (m : List Segment) :
    (modifyFirst (fun g => decide (g.id = id)) f m).find? (fun g => decide (g.id = k)) =
      if k = id then (m.find? (fun g => decide (g.id = id))).map f else m.find? (fun g => decide (g.id = k)) := by
  induction m with
  | nil => simp [modifyFirst]
  | cons x xs ih =>
    by_cases hx : x.id = id <;> by_cases hk : k = id
    · simp [modifyFirst, hx, hk, hf]
    · have hne : x.id ≠ k := fun e => hk (e.symm.trans hx)
      simp [modifyFirst, hx, hk, hf, hx ▸ hne]
    · subst hk
      simpa [modifyFirst, hx] using ih
    · by_cases hxk : x.id = k
      · simp [modifyFirst, hxk, hk]
      · simpa [modifyFirst, hx, hxk, hk] using ih

/-- A change of a record that keeps its id is seen under that id alone. -/
theorem State.segment?_modSegment {s : State} {f : Segment → Segment} (hf : ∀ g, (f g).id = g.id) (id k : Byte) :
    (s.modSegment id f).segment? k = if k = id then (s.segment? id).map f else s.segment? k :=
  find?_modifyFirst_id hf id k s.pool.map

@[simp] theorem freeSegment_map (s : State) (g : Segment) (b : Bool) :
    (s.freeSegment g b).pool.map = s.pool.map.eraseP (fun x => decide (x.id = g.id)) := by
  cases b <;> rfl

@[simp] theorem freeSegment_free (s : State) (g : Segment) (b : Bool) :
    (s.freeSegment g b).pool.free = s.pool.free ++ g.blocks := by
  cases b <;> rfl

/-- The ids of a map are distinct, as a proposition. -/
theorem Pool.keyed_iff {p : Pool} : p.keyed = true ↔ p.map.Pairwise (fun g h => g.id ≠ h.id) := by
  simp [Pool.keyed]

theorem find?_eraseP_id {m : List Segment} (hm : m.Pairwise (fun g h => g.id ≠ h.id)) (id k : Byte) :
    (m.eraseP (fun g => decide (g.id = id))).find? (fun g => decide (g.id = k)) =
      if k = id then none else m.find? (fun g => decide (g.id = k)) := by
  induction m with
  | nil => simp
  | cons x xs ih =>
    obtain ⟨hx, hxs⟩ := List.pairwise_cons.mp hm
    by_cases hxi : x.id = id
    · rw [List.eraseP_cons_of_pos (by simpa using hxi)]
      split
      · next hk => simpa [hk, ← hxi] using fun y hy => (hx y hy).symm
      · next hk => simp [hxi, Ne.symm hk]
    · rw [List.eraseP_cons_of_neg (by simpa using hxi), List.find?_cons, List.find?_cons, ih hxs]
      by_cases hxk : x.id = k
      · simp [hxk, show k ≠ id from hxk ▸ hxi]
      · simp [hxk]

/-- A freed segment's id names no record; the other records stay. -/
theorem State.segment?_freeSegment {s : State} (hk : s.pool.keyed = true) (g : Segment) (b : Bool) (k : Byte) :
    (s.freeSegment g b).segment? k = if k = g.id then none else s.segment? k := by
  unfold State.segment?
  rw [freeSegment_map]
  exact find?_eraseP_id (Pool.keyed_iff.mp hk) g.id k

/-! ### The order of the records (R4, R23) -/

/-- The records stand in rising order of their ids. -/
abbrev Pool.rising (p : Pool) : Prop := p.map.Pairwise (fun g h => g.id.toNat < h.id.toNat)

theorem insertSegment_pairwise {R : Segment → Segment → Prop} {g : Segment} {m : List Segment} (hm : m.Pairwise R)
    (hlt : ∀ x ∈ m, g.id.toNat < x.id.toNat → R g x) (hge : ∀ x ∈ m, ¬g.id.toNat < x.id.toNat → R x g)
    (htrans : ∀ x ∈ m, ∀ y ∈ m, g.id.toNat < x.id.toNat → R x y → R g y) : (insertSegment g m).Pairwise R := by
  induction m with
  | nil => simp [insertSegment]
  | cons x xs ih =>
    obtain ⟨hx, hxs⟩ := List.pairwise_cons.mp hm
    unfold insertSegment
    split
    · next h =>
      refine List.pairwise_cons.mpr ⟨fun y hy => ?_, hm⟩
      rcases List.mem_cons.mp hy with rfl | hy'
      · exact hlt y (by simp) h
      · exact htrans x (by simp) y (by simp [hy']) h (hx y hy')
    · next h =>
      refine List.pairwise_cons.mpr ⟨fun y hy => ?_, ih hxs (fun y hy => hlt y (by simp [hy]))
        (fun y hy => hge y (by simp [hy])) (fun a ha b hb => htrans a (by simp [ha]) b (by simp [hb]))⟩
      rcases (mem_insertSegment g xs y).mp hy with rfl | hy
      · exact hge x (by simp) h
      · exact hx y hy

/-- A new id goes to its place among rising ids. -/
theorem insertSegment_rising {g : Segment} {m : List Segment} (hm : m.Pairwise (fun g h => g.id.toNat < h.id.toNat))
    (hnew : m.find? (fun x => decide (x.id = g.id)) = none) :
    (insertSegment g m).Pairwise (fun g h => g.id.toNat < h.id.toNat) := by
  refine insertSegment_pairwise hm (fun _ _ h => h) (fun x hx h => ?_) (fun x _ y _ h h' => Nat.lt_trans h h')
  have hne : x.id ≠ g.id := by simpa using List.find?_eq_none.mp hnew x hx
  have : x.id.toNat ≠ g.id.toNat := fun e => hne (BitVec.eq_of_toNat_eq e)
  omega

/-- A new id keeps the ids distinct. -/
theorem insertSegment_keyed {g : Segment} {m : List Segment} (hm : m.Pairwise (fun g h => g.id ≠ h.id))
    (hnew : m.find? (fun x => decide (x.id = g.id)) = none) :
    (insertSegment g m).Pairwise (fun g h => g.id ≠ h.id) := by
  have hne (x : Segment) (hx : x ∈ m) : x.id ≠ g.id := by simpa using List.find?_eq_none.mp hnew x hx
  refine ((insertSegment_perm g m).symm.pairwise_iff fun h => ?_).mp
    (List.pairwise_cons.mpr ⟨fun x hx => (hne x hx).symm, hm⟩)
  exact h.symm

/-- A change that keeps a relation's key keeps the relation along the list. -/
theorem modifyFirst_pairwise {α β : Type} {R : β → β → Prop} (k : α → β) {p : α → Bool} {f : α → α}
    (hf : ∀ g, k (f g) = k g) {m : List α} (hm : m.Pairwise (fun g h => R (k g) (k h))) :
    (modifyFirst p f m).Pairwise (fun g h => R (k g) (k h)) := by
  rw [← List.pairwise_map] at hm ⊢
  rwa [modifyFirst_map k hf]

end Sys2Proof.Machine

/-! ## References: what each record's count stands for (R11, R12) -/

namespace Sys2Proof.Machine

/-- Each record counts the entries that name it and `k` of its id, none is retiring or FAILED without a reference, and what has no
record is named by none. With `k` the jobs' part this is `State.referenced`; `k` leaves room for a reference whose holder has
gone and whose release comes next. -/
structure State.accounts (s : State) (k : Byte → Nat) : Prop where
  keyed : s.pool.keyed = true
  counted : ∀ id g, s.segment? id = some g →
    g.refs = s.entriesNaming id + k id ∧ (0 < g.refs ∨ (g.retiring = false ∧ g.state ≠ .failed))
  known : ∀ id, s.segment? id = none → s.entriesNaming id + k id = 0

/-- One more reference under an id. -/
def oneMore (k : Byte → Nat) (id : Byte) : Byte → Nat := fun i => k i + if id = i then 1 else 0

/-! ### Entries that name a segment -/

/-- Entries of a queue that name a segment. -/
def namingIn (id : Byte) (q : List Entry) : Nat := q.countP (fun e => e.segment = id)

@[simp] theorem namingIn_nil (id : Byte) : namingIn id [] = 0 := rfl

@[simp] theorem namingIn_cons (id : Byte) (e : Entry) (q : List Entry) :
    namingIn id (e :: q) = namingIn id q + if e.segment = id then 1 else 0 := by
  simp [namingIn, List.countP_cons]

@[simp] theorem namingIn_append (id : Byte) (q r : List Entry) : namingIn id (q ++ r) = namingIn id q + namingIn id r :=
  List.countP_append

theorem entriesNaming_setChannel (s : State) (c : Fin 4) (x : Channel) (id : Byte) :
    (s.setChannel c x).entriesNaming id + namingIn id (s.channel c).queue = s.entriesNaming id + namingIn id x.queue := by
  have other (d : Fin 4) (h : d ≠ c) : (s.setChannel c x).channel d = s.channel d := State.channel_setChannel_other s h x
  simp only [State.entriesNaming, allChannels, List.map_cons, List.map_nil, List.sum_cons, List.sum_nil, namingIn]
  fin_cases c <;>
    simp only [Fin.zero_eta, Fin.mk_one, Fin.reduceFinMk, State.channel_setChannel_self] at * <;>
    simp only [other 0, other 1, other 2, other 3, ne_eq, not_false_eq_true, Fin.reduceEq] <;> omega

theorem entriesNaming_congr {s t : State} (h : t.channels = s.channels) (id : Byte) :
    t.entriesNaming id = s.entriesNaming id := by
  simp [State.entriesNaming, State.channel, h]

/-- No entry of a channel names more than is named at all. -/
theorem namingIn_le (s : State) (c : Fin 4) (id : Byte) : namingIn id (s.channel c).queue ≤ s.entriesNaming id := by
  have := entriesNaming_setChannel s c { s.channel c with queue := [] } id
  simp only [namingIn_nil] at this
  omega

/-! ### The accounts through each operation -/

namespace State.accounts

variable {s t : State} {k : Byte → Nat}

/-- The accounts see the map and the queues alone. -/
theorem congr (h : s.accounts k) (hm : t.pool.map = s.pool.map) (hc : t.channels = s.channels) : t.accounts k := by
  have hs (id : Byte) : t.segment? id = s.segment? id := by simp [State.segment?, hm]
  refine ⟨by simpa [Pool.keyed, hm] using h.keyed, fun id g hg => ?_, fun id hn => ?_⟩
  · rw [entriesNaming_congr hc]; exact h.counted id g (hs id ▸ hg)
  · rw [entriesNaming_congr hc]; exact h.known id (hs id ▸ hn)

/-- A channel's queue changes with the references that its entries hold. -/
theorem setChannel (h : s.accounts k) {c : Fin 4} {x : Channel} {k' : Byte → Nat}
    (hq : ∀ id, namingIn id x.queue + k' id = namingIn id (s.channel c).queue + k id) :
    (s.setChannel c x).accounts k' := by
  have e (id : Byte) : (s.setChannel c x).entriesNaming id + k' id = s.entriesNaming id + k id := by
    have := entriesNaming_setChannel s c x id
    have := hq id
    omega
  refine ⟨h.keyed, fun id g hg => ?_, fun id hn => ?_⟩
  · rw [e]; exact h.counted id g hg
  · rw [e]; exact h.known id hn

/-- A change of a channel that leaves the segments its queue names. -/
theorem modChannel (h : s.accounts k) {c : Fin 4} {f : Channel → Channel}
    (hq : (f (s.channel c)).queue.map (·.segment) = (s.channel c).queue.map (·.segment)) :
    (s.modChannel c f).accounts k := by
  refine h.setChannel fun id => ?_
  have e (q : List Entry) : namingIn id q = (q.map (·.segment)).countP (fun i => i = id) := by
    simp [namingIn, List.countP_map, Function.comp_def]
  rw [e, e, hq]

/-- A head that leaves its queue leaves its reference behind. -/
theorem dropEntry (h : s.accounts k) {c : Fin 4} {e : Entry} {rest : List Entry} {f : Channel → Channel}
    (hq : (s.channel c).queue = e :: rest) (hf : (f (s.channel c)).queue = rest) :
    (s.modChannel c f).accounts (oneMore k e.segment) := by
  refine h.setChannel fun id => ?_
  rw [hq, hf, namingIn_cons, oneMore]
  omega

/-- An entry that joins a queue holds a reference taken for it. -/
theorem appendEntry {e : Entry} (h : s.accounts (oneMore k e.segment)) {c : Fin 4} {f : Channel → Channel}
    (hf : (f (s.channel c)).queue = (s.channel c).queue ++ [e]) : (s.modChannel c f).accounts k := by
  refine h.setChannel fun id => ?_
  rw [hf, namingIn_append, namingIn_cons, namingIn_nil, oneMore]
  omega

/-- A change of a record that keeps its id. -/
theorem modSegment (h : s.accounts k) {id : Byte} {f : Segment → Segment} {k' : Byte → Nat} (hf : ∀ g, (f g).id = g.id)
    (hk : ∀ i, i ≠ id → k' i = k i) (hn : s.segment? id = none → k' id = k id)
    (hg : ∀ g, s.segment? id = some g → g.refs = s.entriesNaming id + k id →
      (0 < g.refs ∨ (g.retiring = false ∧ g.state ≠ .failed)) →
      (f g).refs = s.entriesNaming id + k' id ∧ (0 < (f g).refs ∨ ((f g).retiring = false ∧ (f g).state ≠ .failed))) :
    (s.modSegment id f).accounts k' := by
  refine ⟨?_, fun i g hi => ?_, fun i hi => ?_⟩
  · exact Pool.keyed_iff.mpr (modifyFirst_pairwise (fun g : Segment => g.id) hf (Pool.keyed_iff.mp h.keyed))
  · rw [State.segment?_modSegment hf] at hi
    show g.refs = s.entriesNaming i + k' i ∧ _
    split at hi
    · next he =>
      subst he
      obtain ⟨x, hx, rfl⟩ := Option.map_eq_some_iff.mp hi
      exact hg x hx (h.counted i x hx).1 (h.counted i x hx).2
    · next he => rw [hk i he]; exact h.counted i g hi
  · rw [State.segment?_modSegment hf] at hi
    show s.entriesNaming i + k' i = 0
    split at hi
    · next he =>
      subst he
      have hnone : s.segment? i = none := by simpa using hi
      rw [hn hnone]; exact h.known i hnone
    · next he => rw [hk i he]; exact h.known i hi

/-- A taken reference. -/
theorem takeRef (h : s.accounts k) {id : Byte} (hs : (s.segment? id).isSome = true) :
    (s.takeRef id).accounts (oneMore k id) := by
  refine h.modSegment (fun _ => rfl) (fun i hi => by simp [oneMore, Ne.symm hi])
    (fun hn => by simp [hn] at hs) (fun g _ hr _ => ?_)
  simp only [oneMore, if_true]
  omega

/-- The freeing of a record that nothing names any more. -/
theorem freeSegment (h : s.accounts k) {g : Segment} (b : Bool) {k' : Byte → Nat} (hk : ∀ i, i ≠ g.id → k' i = k i)
    (h0 : s.entriesNaming g.id + k' g.id = 0) : (s.freeSegment g b).accounts k' := by
  have hc : (s.freeSegment g b).channels = s.channels := (freeSegment_frame s g b).1
  refine ⟨?_, fun i x hi => ?_, fun i hi => ?_⟩
  · refine Pool.keyed_iff.mpr ?_
    rw [freeSegment_map]
    exact (Pool.keyed_iff.mp h.keyed).sublist List.eraseP_sublist
  all_goals rw [State.segment?_freeSegment h.keyed] at hi; rw [entriesNaming_congr hc]; split at hi
  · cases hi
  · next he => rw [hk i he]; exact h.counted i x hi
  · next he => rw [he]; exact h0
  · next he => rw [hk i he]; exact h.known i hi

/-- A release settles the reference whose holder has gone (R12). -/
theorem releaseRef {id : Byte} (h : s.accounts (oneMore k id)) : (s.releaseRef id).accounts k := by
  have other (i : Byte) (hi : i ≠ id) : k i = oneMore k id i := by simp [oneMore, Ne.symm hi]
  have self : oneMore k id id = k id + 1 := by simp [oneMore]
  rcases releaseRef_cases s id with ⟨hn, -⟩ | ⟨g, hg, hr, -, e⟩ | ⟨g, hg, hr, e⟩
  · have := h.known id hn
    omega
  · obtain ⟨hc, -⟩ := h.counted id g hg
    have hid : g.id = id := State.id_of_segment? hg
    rw [e]
    refine h.freeSegment true (fun i hi => other i ?_) ?_
    · exact fun e => hi (e.trans hid.symm)
    · show s.entriesNaming g.id + k g.id = 0
      rw [hid]
      omega
  · rw [e]
    refine h.modSegment (fun _ => rfl) other (fun hn => by simp [hn] at hg) (fun x hx hc hp => ?_)
    obtain rfl : g = x := by simpa [hg] using hx
    refine ⟨by simp only; omega, ?_⟩
    by_cases h0 : g.refs - 1 = 0
    · refine .inr ⟨?_, fun hs => hr ⟨h0, .inr hs⟩⟩
      cases hret : g.retiring
      · rfl
      · exact absurd ⟨h0, .inl hret⟩ hr
    · exact .inl (Nat.pos_of_ne_zero h0)

/-- A new record under a free id, with the references given to it. -/
theorem createSegment (h : s.accounts k) {id : Byte} (hn : s.segment? id = none) {st : SegState} (hst : st ≠ .failed)
    (n : Nat) (ms : List Mark) (r : Nat) (o : Origin) {k' : Byte → Nat} (hk : ∀ i, i ≠ id → k' i = k i)
    (hr : k' id = r) : (s.createSegment id st n ms r o).accounts k' := by
  have h0 : s.entriesNaming id = 0 := by have := h.known id hn; omega
  refine ⟨?_, fun i g hi => ?_, fun i hi => ?_⟩
  · exact Pool.keyed_iff.mpr (insertSegment_keyed (Pool.keyed_iff.mp h.keyed) hn)
  · show g.refs = s.entriesNaming i + k' i ∧ _
    by_cases he : i = id
    · subst he
      rw [State.segment?_createSegment_self hn] at hi
      cases hi
      exact ⟨by simp [h0, hr], .inr ⟨rfl, hst⟩⟩
    · rw [State.segment?_createSegment_other s he] at hi
      rw [hk i he]
      exact h.counted i g hi
  · show s.entriesNaming i + k' i = 0
    have he : i ≠ id := by
      rintro rfl
      rw [State.segment?_createSegment_self hn] at hi
      cases hi
    rw [State.segment?_createSegment_other s he] at hi
    rw [hk i he]
    exact h.known i hi

end State.accounts

/-! ### The jobs' part -/

/-- Jobs of a list that name a segment. -/
def namingJobs (js : List Job) (id : Byte) : Nat := js.countP (fun j => j.work.segment? = some id)

theorem namingJobs_cons (j : Job) (js : List Job) (id : Byte) :
    namingJobs (j :: js) id = namingJobs js id + if j.work.segment? = some id then 1 else 0 := by
  simp [namingJobs, List.countP_cons]

theorem namingJobs_append (js ks : List Job) (id : Byte) : namingJobs (js ++ ks) id = namingJobs js id + namingJobs ks id :=
  List.countP_append

theorem find?_id_of_mem {m : List Segment} (hm : m.Pairwise (fun g h => g.id ≠ h.id)) {g : Segment} (h : g ∈ m) :
    m.find? (fun x => decide (x.id = g.id)) = some g := by
  induction m with
  | nil => cases h
  | cons x xs ih =>
    obtain ⟨hx, hxs⟩ := List.pairwise_cons.mp hm
    rcases List.mem_cons.mp h with rfl | h
    · simp
    · simp [hx g h, ih hxs h]

/-- With distinct ids a record stands under its own. -/
theorem State.segment?_of_mem {s : State} (hk : s.pool.keyed = true) {g : Segment} (h : g ∈ s.pool.map) :
    s.segment? g.id = some g := find?_id_of_mem (Pool.keyed_iff.mp hk) h

theorem exists_entry_of_entriesNaming {s : State} {id : Byte} (h : s.entriesNaming id ≠ 0) :
    ∃ c, ∃ e ∈ (s.channel c).queue, e.segment = id := by
  by_contra hno
  refine h ?_
  have h0 (c : Fin 4) : (s.channel c).queue.countP (fun e => e.segment = id) = 0 := by
    simpa using fun e he hs => hno ⟨c, e, he, hs⟩
  simp [State.entriesNaming, allChannels, h0]

/-- The invariant of references, with the jobs' part spelled out. -/
theorem referenced_iff (s : State) : s.referenced = true ↔ s.accounts (namingJobs s.jobs) := by
  constructor
  · intro h
    simp only [State.referenced, Bool.and_eq_true, List.all_eq_true, decide_eq_true_eq, Bool.or_eq_true,
      Bool.not_eq_true'] at h
    obtain ⟨⟨⟨hk, hg⟩, he⟩, hj⟩ := h
    refine ⟨hk, fun id g hs => ?_, fun id hn => ?_⟩
    · have hid := State.id_of_segment? hs
      subst hid
      exact hg g (State.mem_of_segment? hs)
    · have h1 : s.entriesNaming id = 0 := by
        by_contra hne
        obtain ⟨c, e, hc, rfl⟩ := exists_entry_of_entriesNaming hne
        have := he c (by fin_cases c <;> simp [allChannels]) e hc
        simp [hn] at this
      have h2 : namingJobs s.jobs id = 0 := by
        refine List.countP_eq_zero.mpr fun j hm hs => ?_
        have := hj j hm
        simp [of_decide_eq_true hs, hn] at this
      omega
  · intro h
    simp only [State.referenced, Bool.and_eq_true, List.all_eq_true, decide_eq_true_eq, Bool.or_eq_true,
      Bool.not_eq_true']
    have named (id : Byte) (hid : s.entriesNaming id + namingJobs s.jobs id ≠ 0) : (s.segment? id).isSome = true := by
      by_contra hno
      exact hid (h.known id (by simpa using hno))
    refine ⟨⟨⟨h.keyed, fun g hg => ?_⟩, fun c _ e he => named _ ?_⟩, fun j hj => ?_⟩
    · exact h.counted g.id g (State.segment?_of_mem h.keyed hg)
    · have h1 := namingIn_le s c e.segment
      have h2 : 0 < namingIn e.segment (s.channel c).queue := List.countP_pos_iff.mpr ⟨e, he, by simp⟩
      omega
    · cases hs : j.work.segment? with
      | none => rfl
      | some id =>
        refine named id ?_
        have : 0 < namingJobs s.jobs id := List.countP_pos_iff.mpr ⟨j, hj, by simp [hs]⟩
        omega

end Sys2Proof.Machine

/-! ## The Notice Queue: its arrangement through each operation (R178, R187, R191) -/

namespace Sys2Proof.Machine

/-! ### Numbers before the next one -/

theorem seqsBefore_succ (next : Byte) (k : Nat) :
    seqsBefore next (k + 1) = (next - BitVec.ofNat 8 (k + 1)) :: seqsBefore next k := by
  simp only [seqsBefore, List.range_succ_eq_map, List.map_cons, List.map_map, Function.comp_def]
  refine congrArg₂ List.cons rfl (List.map_congr_left fun i _ => ?_)
  congr 2
  omega

/-- One more number at the end, and the next one after it. -/
theorem seqsBefore_next (next : Byte) (k : Nat) : seqsBefore (next + 1) (k + 1) = seqsBefore next k ++ [next] := by
  induction k with
  | zero => simp [seqsBefore]
  | succ k ih =>
    rw [seqsBefore_succ (next + 1), ih, seqsBefore_succ next, List.cons_append]
    congr 1
    have e : BitVec.ofNat 8 (k + 1 + 1) = BitVec.ofNat 8 (k + 1) + 1#8 := BitVec.ofNat_add (k + 1) 1
    rw [e, show next + 1 = next + 1#8 from rfl]
    generalize BitVec.ofNat 8 (k + 1) = m
    bv_omega

/-- Records that carry the numbers before the next one, in list order. -/
def numberedBefore (next : Byte) (rs : List Notice) : Prop :=
  rs.map Notice.seq? = (seqsBefore next rs.length).map some

theorem numberedBefore_suffix {next : Byte} {xs ys : List Notice} (h : numberedBefore next (xs ++ ys)) :
    numberedBefore next ys := by
  induction xs with
  | nil => exact h
  | cons x xs ih =>
    refine ih ?_
    unfold numberedBefore at h
    rw [List.cons_append, List.length_cons, seqsBefore_succ, List.map_cons, List.map_cons] at h
    exact (List.cons_eq_cons.mp h).2

theorem numberedBefore_append_new {next : Byte} {rs : List Notice} (h : numberedBefore next rs) {r : Notice}
    (hr : r.seq? = some next) : numberedBefore (next + 1) (rs ++ [r]) := by
  unfold numberedBefore at h ⊢
  rw [List.length_append, List.length_singleton, seqsBefore_next]
  simp [h, hr]

theorem numberedBefore_congr {next : Byte} {rs ts : List Notice} (h : numberedBefore next rs)
    (e : ts.map Notice.seq? = rs.map Notice.seq?) : numberedBefore next ts := by
  have hl : ts.length = rs.length := by simpa using congrArg List.length e
  unfold numberedBefore
  rw [e, hl]
  exact h

/-! ### The three parts of the queue -/

/-- The queue is its SENT, its SENT-RESEND and its NEW records, in this order, and the rest of its arrangement holds. -/
structure Notices.Parts (q : Notices) (ss rs ns : List Notice) : Prop where
  records : q.records = ss ++ (rs ++ ns)
  sent : ∀ r ∈ ss, r.isSent = true
  resend : ∀ r ∈ rs, r.isResend = true
  new : ∀ r ∈ ns, r.isNew = true
  numbers : numberedBefore q.nextSeq (ss ++ rs)
  few : (ss ++ rs).length ≤ Config.maxWindow
  apart : ns.Pairwise (fun a b => a.kind ≠ b.kind ∨ a.source ≠ b.source)
  timer : q.timer = .stopped ↔ ss = []
  window : q.window ≤ Config.maxWindow
  enabled : q.enable &&& alwaysEnabled = alwaysEnabled

theorem Notice.isNew_iff {r : Notice} : r.isNew = true ↔ r.state = .new := by simp [Notice.isNew]

theorem Notice.isSent_iff {r : Notice} : r.isSent = true ↔ ∃ n, r.state = .sent n := by
  cases h : r.state <;> simp [Notice.isSent, h]

theorem Notice.isResend_iff {r : Notice} : r.isResend = true ↔ ∃ n, r.state = .resend n := by
  cases h : r.state <;> simp [Notice.isResend, h]

/-- A record is in one state. -/
theorem Notice.states_apart (r : Notice) :
    (r.isSent = true → r.isResend = false ∧ r.isNew = false) ∧ (r.isResend = true → r.isSent = false ∧ r.isNew = false) ∧
    (r.isNew = true → r.isSent = false ∧ r.isResend = false) := by
  cases h : r.state <;> simp [Notice.isSent, Notice.isResend, Notice.isNew, h]

section Parts

variable {q : Notices} {ss rs ns : List Notice}

/-- The records that carry a number are those before the NEW ones. -/
theorem Notices.numbered_of_split (h : q.records = ss ++ (rs ++ ns)) (hs : ∀ r ∈ ss, r.isSent = true)
    (hr : ∀ r ∈ rs, r.isResend = true) (hn : ∀ r ∈ ns, r.isNew = true) : q.numbered = ss ++ rs := by
  rw [Notices.numbered, h, List.filter_append, List.filter_append,
    List.filter_eq_self.mpr fun r m => by simp [(r.states_apart.1 (hs r m)).2],
    List.filter_eq_self.mpr fun r m => by simp [(r.states_apart.2.1 (hr r m)).2],
    List.filter_eq_nil_iff.mpr fun r m => by simp [hn r m], List.append_nil]

theorem Notices.Parts.filters (h : q.Parts ss rs ns) : q.records.filter Notice.isSent = ss ∧
    q.records.filter Notice.isResend = rs ∧ q.records.filter Notice.isNew = ns ∧ q.numbered = ss ++ rs := by
  have all {l : List Notice} {p : Notice → Bool} (hl : ∀ r ∈ l, p r = true) : l.filter p = l := List.filter_eq_self.mpr hl
  have none {l : List Notice} {p : Notice → Bool} (hl : ∀ r ∈ l, p r = false) : l.filter p = [] :=
    List.filter_eq_nil_iff.mpr fun r hr => by simp [hl r hr]
  have s1 (r) (hr : r ∈ ss) := r.states_apart.1 (h.sent r hr)
  have r1 (r) (hr : r ∈ rs) := r.states_apart.2.1 (h.resend r hr)
  have n1 (r) (hr : r ∈ ns) := r.states_apart.2.2 (h.new r hr)
  refine ⟨?_, ?_, ?_, Notices.numbered_of_split h.records h.sent h.resend h.new⟩ <;>
    simp only [h.records, List.filter_append]
  · rw [all h.sent, none fun r hr => (r1 r hr).1, none fun r hr => (n1 r hr).1]; simp
  · rw [none fun r hr => (s1 r hr).1, all h.resend, none fun r hr => (n1 r hr).2]; simp
  · rw [none fun r hr => (s1 r hr).2, none fun r hr => (r1 r hr).2, all h.new]; simp

theorem Notices.Parts.any_sent (h : q.Parts ss rs ns) : q.records.any Notice.isSent = false ↔ ss = [] := by
  rw [← h.filters.1, List.filter_eq_nil_iff]
  simp

theorem Notices.Parts.arranged (h : q.Parts ss rs ns) : q.arranged = true := by
  obtain ⟨hs, hr, hn, hb⟩ := h.filters
  simp only [Notices.arranged, hs, hr, hn, hb, Bool.and_eq_true, decide_eq_true_eq, h.any_sent]
  exact ⟨⟨⟨⟨⟨⟨by rw [h.records, List.append_assoc], h.numbers⟩, h.few⟩, h.apart⟩, h.timer⟩, h.window⟩, h.enabled⟩

/-- An arranged queue has its three parts. -/
theorem Notices.parts_of_arranged (h : q.arranged = true) : ∃ ss rs ns, q.Parts ss rs ns := by
  simp only [Notices.arranged, Bool.and_eq_true, decide_eq_true_eq] at h
  obtain ⟨⟨⟨⟨⟨⟨hrec, hnum⟩, hfew⟩, hapart⟩, htimer⟩, hwin⟩, hen⟩ := h
  have hb : q.numbered = q.records.filter Notice.isSent ++ q.records.filter Notice.isResend :=
    Notices.numbered_of_split (hrec.trans (List.append_assoc ..)) (fun r hr => (List.mem_filter.mp hr).2)
      (fun r hr => (List.mem_filter.mp hr).2) (fun r hr => (List.mem_filter.mp hr).2)
  refine ⟨_, _, _, ?_, fun r hr => (List.mem_filter.mp hr).2, fun r hr => (List.mem_filter.mp hr).2,
    fun r hr => (List.mem_filter.mp hr).2, hb ▸ hnum, hb ▸ hfew, hapart, htimer.trans ?_, hwin, hen⟩
  · rw [← List.append_assoc]; exact hrec
  · rw [List.filter_eq_nil_iff]; simp

end Parts

/-! ### What each operation leaves of the arrangement -/

theorem modifyFirst_append_right {α : Type} {p : α → Bool} (f : α → α) {xs : List α} (h : ∀ x ∈ xs, p x = false)
    (ys : List α) : modifyFirst p f (xs ++ ys) = xs ++ modifyFirst p f ys := by
  induction xs with
  | nil => rfl
  | cons x xs ih => simp [modifyFirst, h x, ih fun y hy => h y (by simp [hy])]

theorem Notice.mergesWith_iff {k : NoticeKind} {src : Source} {r : Notice} :
    r.mergesWith k src = true ↔ r.state = .new ∧ r.kind = k ∧ r.source = src := by
  simp [Notice.mergesWith, Notice.isNew, and_assoc]

theorem Notice.mergesWith_of_not_new {k : NoticeKind} {src : Source} {r : Notice} (h : r.isNew = false) :
    r.mergesWith k src = false := by
  simp [Notice.mergesWith, h]

section Operations

variable {q : Notices} {ss rs ns : List Notice}

/-- No record before the NEW ones is one. -/
theorem Notices.Parts.not_new (h : q.Parts ss rs ns) : ∀ r ∈ ss ++ rs, r.isNew = false := by
  intro r hr
  rcases List.mem_append.mp hr with hr | hr
  · exact (r.states_apart.1 (h.sent r hr)).2
  · exact (r.states_apart.2.1 (h.resend r hr)).2

theorem Notices.Parts.produce (h : q.Parts ss rs ns) (k : NoticeKind) (src : Source) (d : List Byte) :
    ∃ ns', (q.produce k src d).Parts ss rs ns' := by
  rcases produce_cases q k src d with ⟨-, e⟩ | ⟨-, -, e⟩ | ⟨-, hm, -, e⟩ | ⟨-, -, -, e⟩ <;> rw [e]
  · exact ⟨ns, h⟩
  · refine ⟨modifyFirst (Notice.mergesWith k src) (fun r => { r with count := satInc r.count, detail := d }) ns, ?_,
      h.sent, h.resend, forall_modifyFirst h.new fun x _ hx => hx, h.numbers, h.few, ?_, h.timer, h.window, h.enabled⟩
    · show modifyFirst _ _ q.records = _
      rw [h.records, ← List.append_assoc, ← List.append_assoc]
      exact modifyFirst_append_right _ (fun r hr => Notice.mergesWith_of_not_new (h.not_new r hr)) ns
    · have hkey := modifyFirst_map (fun r : Notice => (r.kind, r.source)) (p := Notice.mergesWith k src)
        (f := fun r => { r with count := satInc r.count, detail := d }) (fun _ => rfl) ns
      have := h.apart
      rw [← List.pairwise_map (f := fun r : Notice => (r.kind, r.source)) (R := fun a b => a.1 ≠ b.1 ∨ a.2 ≠ b.2)] at this ⊢
      rwa [hkey]
  · refine ⟨ns ++ [⟨k, src, d, 1, .new⟩], ?_, h.sent, h.resend, ?_, h.numbers, h.few, ?_, h.timer, h.window, h.enabled⟩
    · simp [h.records]
    · intro r hr
      rcases List.mem_append.mp hr with hr | hr
      · exact h.new r hr
      · rw [List.mem_singleton.mp hr]; rfl
    · refine List.pairwise_append.mpr ⟨h.apart, List.pairwise_singleton _ _, fun a ha b hb => ?_⟩
      rw [List.mem_singleton.mp hb]
      have hno : Notice.mergesWith k src a = false := by
        have hmem : a ∈ q.records := by rw [h.records]; simp [ha]
        simpa using List.any_eq_false.mp hm a hmem
      by_contra hc
      rw [not_or, not_not, not_not] at hc
      rw [Notice.mergesWith_iff.mpr ⟨Notice.isNew_iff.mp (h.new a ha), hc⟩] at hno
      cases hno
  · exact ⟨ns, h.records, h.sent, h.resend, h.new, h.numbers, h.few, h.apart, h.timer, h.window, h.enabled⟩

theorem Notices.Parts.reportLoss (h : q.Parts ss rs ns) : ∃ ns', q.reportLoss.Parts ss rs ns' := by
  unfold Notices.reportLoss
  split
  · exact ⟨ns, h⟩
  · obtain ⟨ns', h'⟩ := h.produce .lost .part q.lostDetail
    exact ⟨ns', h'.records, h'.sent, h'.resend, h'.new, h'.numbers, h'.few, h'.apart, h'.timer, h'.window, h'.enabled⟩

/-- The records after the first one that a number's acknowledgement names. -/
theorem dropThrough_split {n : Byte} {xs ys : List Notice} {r : Notice} (hx : ∀ x ∈ xs, x.isSentAs n = false)
    (hr : r.isSentAs n = true) : dropThrough n (xs ++ r :: ys) = ys := by
  induction xs with
  | nil => simp [dropThrough, hr]
  | cons x xs ih => simp [dropThrough, hx x, ih fun y hy => hx y (by simp [hy])]

theorem Notice.isSent_of_isSentAs {n : Byte} {r : Notice} (h : r.isSentAs n = true) : r.isSent = true := by
  have : r.state = .sent n := by simpa [Notice.isSentAs] using h
  simp [Notice.isSent, this]

theorem Notices.Parts.acknowledge (h : q.Parts ss rs ns) {n : Byte} (hn : q.records.any (Notice.isSentAs n) = true) :
    ∃ ss' ns', (q.acknowledge n).Parts ss' rs ns' := by
  have hss : ss.any (Notice.isSentAs n) = true := by
    rw [h.records, List.any_append, Bool.or_eq_true] at hn
    refine hn.resolve_right fun hr => ?_
    obtain ⟨r, hr, hs⟩ := List.any_eq_true.mp hr
    have hsent := Notice.isSent_of_isSentAs hs
    rcases List.mem_append.mp hr with hr | hr
    · simp [(r.states_apart.2.1 (h.resend r hr)).1] at hsent
    · simp [(r.states_apart.2.2 (h.new r hr)).1] at hsent
  obtain ⟨r, hr⟩ := Option.isSome_iff_exists.mp ((List.find?_isSome (xs := ss) (p := Notice.isSentAs n)).mpr (by simpa using hss))
  obtain ⟨as, bs, rfl, has, hrs⟩ := exists_split_of_find? hr
  have hd : dropThrough n q.records = bs ++ (rs ++ ns) := by
    rw [h.records, List.append_assoc, List.cons_append]
    exact dropThrough_split has hrs
  have hsent : ∀ x ∈ bs, x.isSent = true := fun x hx => h.sent x (by simp [hx])
  have hnum : numberedBefore q.nextSeq (bs ++ rs) := by
    refine numberedBefore_suffix (xs := as ++ [r]) ?_
    simpa using h.numbers
  have hfew := h.few
  rw [List.length_append, List.length_append, List.length_cons] at hfew
  have htimer : timerFor (bs ++ (rs ++ ns)) = .stopped ↔ bs = [] := by
    have hothers : (rs ++ ns).any Notice.isSent = false := by
      refine List.any_eq_false.mpr fun x hx => ?_
      rcases List.mem_append.mp hx with hx | hx
      · simp [(x.states_apart.2.1 (h.resend x hx)).1]
      · simp [(x.states_apart.2.2 (h.new x hx)).1]
    cases bs with
    | nil => simp [timerFor, hothers]
    | cons b bs => simp [timerFor, hsent b]
  have hp : ({ q with records := dropThrough n q.records, timer := timerFor (dropThrough n q.records) } : Notices).Parts
      bs rs ns :=
    ⟨hd, hsent, h.resend, h.new, hnum, by rw [List.length_append]; omega, h.apart, by rw [hd]; exact htimer, h.window,
      h.enabled⟩
  obtain ⟨ns', h'⟩ := hp.reportLoss
  exact ⟨bs, ns', h'⟩

theorem Notice.mark_of_sent {r : Notice} (h : r.isSent = true) : r.mark.isResend = true := by
  obtain ⟨n, hn⟩ := Notice.isSent_iff.mp h
  simp [Notice.mark, hn, Notice.isResend]

theorem Notice.mark_of_not_sent {r : Notice} (h : r.isSent = false) : r.mark = r := by
  cases hs : r.state <;> simp [Notice.mark, hs]
  simp [Notice.isSent, hs] at h

@[simp] theorem Notice.seq?_mark (r : Notice) : r.mark.seq? = r.seq? := by
  cases hs : r.state <;> simp [Notice.mark, hs, Notice.seq?]

theorem Notices.Parts.markAll (h : q.Parts ss rs ns) : q.markAll.Parts [] (ss.map Notice.mark ++ rs) ns := by
  have hrs : rs.map Notice.mark = rs :=
    (List.map_congr_left fun r hr => Notice.mark_of_not_sent (r.states_apart.2.1 (h.resend r hr)).1).trans (List.map_id rs)
  have hns : ns.map Notice.mark = ns :=
    (List.map_congr_left fun r hr => Notice.mark_of_not_sent (r.states_apart.2.2 (h.new r hr)).1).trans (List.map_id ns)
  refine ⟨?_, by simp, ?_, h.new, ?_, ?_, h.apart, by simp [Notices.markAll], h.window, h.enabled⟩
  · simp [Notices.markAll, h.records, hrs, hns]
  · intro r hr
    rcases List.mem_append.mp hr with hr | hr
    · obtain ⟨x, hx, rfl⟩ := List.mem_map.mp hr
      exact Notice.mark_of_sent (h.sent x hx)
    · exact h.resend r hr
  · exact numberedBefore_congr h.numbers (by simp [Function.comp_def])
  · simpa using h.few

/-! ### The transmission of the offered record -/

/-- The offered record is the oldest SENT-RESEND one, else the oldest NEW one while the window is not full (R183). -/
theorem Notices.offer_cases {r : Notice} (h : q.offer = some r) : q.window ≠ 0 ∧
    (q.records.find? Notice.isResend = some r ∨
      (q.records.find? Notice.isResend = none ∧ q.records.countP Notice.isSent < q.window ∧
        q.records.find? Notice.isNew = some r)) := by
  unfold Notices.offer at h
  split at h
  · cases h
  · next hw =>
    refine ⟨hw, ?_⟩
    split at h
    · next x hx => exact .inl (hx.trans h)
    · next hx =>
      split at h
      · next hc => exact .inr ⟨hx, hc, h⟩
      · cases h

theorem find?_append_none {α : Type} {p : α → Bool} {xs : List α} (h : ∀ x ∈ xs, p x = false) (ys : List α) :
    (xs ++ ys).find? p = ys.find? p := by
  rw [List.find?_append, List.find?_eq_none.mpr (by simpa using h), Option.none_or]

/-- A SENT-RESEND record that is sent again is the last of the SENT ones. -/
theorem Notices.Parts.resendFirst (h : q.Parts ss rs ns) {r : Notice} (hr : q.records.find? Notice.isResend = some r) {n : Byte}
    (hn : r.state = .resend n) : ∃ ss' rs',
      ({ q with records := modifyFirst Notice.isResend (fun x => { x with state := .sent n }) q.records
                timer := .running 0 } : Notices).Parts ss' rs' ns := by
  have hs : ∀ x ∈ ss, x.isResend = false := fun x hx => (x.states_apart.1 (h.sent x hx)).1
  have hns : ∀ x ∈ ns, x.isResend = false := fun x hx => (x.states_apart.2.2 (h.new x hx)).2
  rw [h.records, find?_append_none hs] at hr
  cases rs with
  | nil =>
    rw [List.nil_append, List.find?_eq_none.mpr (by simpa using hns)] at hr
    cases hr
  | cons x rs =>
    have hx := h.resend x (by simp)
    obtain rfl : x = r := by simpa [hx] using hr
    refine ⟨ss ++ [{ x with state := .sent n }], rs, ?_, ?_, fun y hy => h.resend y (by simp [hy]), h.new, ?_, ?_, h.apart,
      by simp, h.window, h.enabled⟩
    · show modifyFirst _ _ q.records = _
      rw [h.records, List.cons_append, modifyFirst_append _ hs hx]
      simp
    · intro y hy
      rcases List.mem_append.mp hy with hy | hy
      · exact h.sent y hy
      · rw [List.mem_singleton.mp hy]; rfl
    · refine numberedBefore_congr h.numbers ?_
      have : ({ x with state := .sent n } : Notice).seq? = x.seq? := by simp [Notice.seq?, hn]
      simp [this]
    · simpa using h.few

/-- A NEW record that is sent is the last of the numbered ones, with the next number. -/
theorem Notices.Parts.sendFirst (h : q.Parts ss rs ns) (hr : q.records.find? Notice.isResend = none)
    (hc : q.records.countP Notice.isSent < q.window) {r : Notice} (hf : q.records.find? Notice.isNew = some r) :
    ∃ ss' ns',
      ({ q with records := modifyFirst Notice.isNew (fun x => { x with state := .sent q.nextSeq }) q.records
                nextSeq := q.nextSeq + 1
                timer := q.timer.startIfStopped } : Notices).Parts ss' [] ns' := by
  obtain rfl : rs = [] := by
    refine List.eq_nil_iff_forall_not_mem.mpr fun x hx => ?_
    have := List.find?_eq_none.mp hr x (by rw [h.records]; simp [hx])
    exact this (h.resend x hx)
  have hcount : ss.length < q.window := by
    rw [List.countP_eq_length_filter, h.filters.1] at hc
    exact hc
  have hwin := h.window
  have hnew : ∀ x ∈ ss, x.isNew = false := fun x hx => (x.states_apart.1 (h.sent x hx)).2
  rw [h.records, List.nil_append, find?_append_none hnew] at hf
  cases ns with
  | nil => cases hf
  | cons x ns =>
    have hx := h.new x (by simp)
    obtain rfl : x = r := by simpa [hx] using hf
    refine ⟨ss ++ [{ x with state := .sent q.nextSeq }], ns, ?_, ?_, by simp, fun y hy => h.new y (by simp [hy]), ?_, ?_,
      (List.pairwise_cons.mp h.apart).2, ?_, h.window, h.enabled⟩
    · show modifyFirst _ _ q.records = _
      rw [h.records, List.nil_append, modifyFirst_append _ hnew hx]
      simp
    · intro y hy
      rcases List.mem_append.mp hy with hy | hy
      · exact h.sent y hy
      · rw [List.mem_singleton.mp hy]; rfl
    · rw [List.append_nil]
      exact numberedBefore_append_new (by simpa using h.numbers) rfl
    · simp only [List.append_nil, List.length_append, List.length_singleton]
      omega
    · cases q.timer <;> simp [Timer.startIfStopped]

theorem Notices.arranged_reset : Notices.reset.arranged = true := by decide

end Operations

end Sys2Proof.Machine

/-! ## The channel players: what their operations change, and the references, the pool and the queue of notices beside them -/

namespace Sys2Proof.Machine

/-! ### The pool and the notices -/

/-- What a release or another change of a record may do to the pool: blocks go back to the free list with their record (R2), the
records keep their order and their ranges (R4, R5), and no record is added. -/
structure Pool.Sheds (p q : Pool) : Prop where
  whole : p.partitioned → q.partitioned
  rising : p.rising → q.rising
  fewer : q.map.length ≤ p.map.length
  shaped : p.map.all Segment.shaped = true → q.map.all Segment.shaped = true

/-- What producing notices may do to the queue. -/
structure Notices.Takes (q r : Notices) : Prop where
  arranged : q.arranged = true → r.arranged = true
  bounded : q.records.length ≤ Config.maxNotices → r.records.length ≤ Config.maxNotices

theorem Pool.Sheds.refl (p : Pool) : p.Sheds p := ⟨id, id, le_refl _, id⟩

theorem Pool.Sheds.trans {p q r : Pool} (h : p.Sheds q) (h' : q.Sheds r) : p.Sheds r :=
  ⟨h'.whole ∘ h.whole, h'.rising ∘ h.rising, h'.fewer.trans h.fewer, h'.shaped ∘ h.shaped⟩

theorem Notices.Takes.refl (q : Notices) : q.Takes q := ⟨id, id⟩

theorem Notices.Takes.trans {q r t : Notices} (h : q.Takes r) (h' : r.Takes t) : q.Takes t :=
  ⟨h'.arranged ∘ h.arranged, h'.bounded ∘ h.bounded⟩

theorem Notices.takes_produce (q : Notices) (k : NoticeKind) (src : Source) (d : List Byte) : q.Takes (q.produce k src d) := by
  refine ⟨fun h => ?_, produce_length q k src d⟩
  obtain ⟨ss, rs, ns, hp⟩ := Notices.parts_of_arranged h
  obtain ⟨ns', hp'⟩ := hp.produce k src d
  exact hp'.arranged

/-- A change of one record that keeps its id, its blocks and its ranges. -/
theorem Pool.sheds_modifyFirst (p : Pool) (id : Byte) {f : Segment → Segment} (hid : ∀ g, (f g).id = g.id)
    (hb : ∀ g, (f g).blocks = g.blocks)
    (hs : ∀ g, p.map.find? (fun x => decide (x.id = id)) = some g → g.shaped = true → (f g).shaped = true) :
    p.Sheds { p with map := modifyFirst (fun g => decide (g.id = id)) f p.map } := by
  refine ⟨fun h => ?_, modifyFirst_pairwise (R := fun a b : Nat => a < b) (fun g : Segment => g.id.toNat) fun g => by rw [hid], by simp, fun h => ?_⟩
  · have e : (modifyFirst (fun g => decide (g.id = id)) f p.map).flatMap (·.blocks) = p.map.flatMap (·.blocks) := by
      rw [List.flatMap_def, List.flatMap_def, modifyFirst_map Segment.blocks hb]
    unfold Pool.partitioned
    rw [e]
    exact h
  · rw [List.all_eq_true] at h ⊢
    exact forall_modifyFirst h hs

theorem Pool.sheds_freeSegment {s : State} {g x : Segment} (b : Bool) (hx : s.segment? g.id = some x)
    (hb : x.blocks = g.blocks) : s.pool.Sheds (s.freeSegment g b).pool := by
  have hsub : (s.freeSegment g b).pool.map.Sublist s.pool.map := by rw [freeSegment_map]; exact List.eraseP_sublist
  refine ⟨freeSegment_partitioned s g b x hx hb, fun h => h.sublist hsub, hsub.length_le, fun h => ?_⟩
  rw [List.all_eq_true] at h ⊢
  exact fun y hy => h y (hsub.subset hy)

theorem Notices.takes_freeSegment (s : State) (g : Segment) (b : Bool) : s.notices.Takes (s.freeSegment g b).notices := by
  cases b
  · exact .refl _
  · exact Notices.takes_produce ..

/-! ### What an operation of the players touches -/

/-- An operation of the channel players changes the channels, the runtime records of triggers, the free list, the segment map and the
notices, and nothing else. -/
structure Tends (s t : State) : Prop where
  frame : t = { s with
    channels := t.channels, trig := { s.trig with triggers := t.trig.triggers }
    pool := { s.pool with free := t.pool.free, map := t.pool.map }, notices := t.notices }
  pool : s.pool.Sheds t.pool
  notices : s.notices.Takes t.notices

namespace Tends

variable {s t u : State}

theorem refl (s : State) : Tends s s := ⟨rfl, .refl _, .refl _⟩

theorem trans (h : Tends s t) (h' : Tends t u) : Tends s u := by
  refine ⟨?_, h.pool.trans h'.pool, h.notices.trans h'.notices⟩
  rw [h'.frame, h.frame]

theorem modChannel (s : State) (c : Fin 4) (f : Channel → Channel) : Tends s (s.modChannel c f) := ⟨rfl, .refl _, .refl _⟩

theorem setTrigger (s : State) (k : Fin 8) (x : Trigger) : Tends s (s.setTrigger k x) := ⟨rfl, .refl _, .refl _⟩

theorem notify (s : State) (k : NoticeKind) (src : Source) (d : List Byte) : Tends s (s.notify k src d) :=
  ⟨rfl, .refl _, Notices.takes_produce ..⟩

theorem freeSegment {g x : Segment} (b : Bool) (hx : s.segment? g.id = some x) (hb : x.blocks = g.blocks) :
    Tends s (s.freeSegment g b) :=
  ⟨by cases b <;> rfl, Pool.sheds_freeSegment b hx hb, Notices.takes_freeSegment s g b⟩

theorem modSegment {id : Byte} {f : Segment → Segment} (hid : ∀ g, (f g).id = g.id) (hb : ∀ g, (f g).blocks = g.blocks)
    (hs : ∀ g, s.segment? id = some g → g.shaped = true → (f g).shaped = true) : Tends s (s.modSegment id f) :=
  ⟨rfl, Pool.sheds_modifyFirst s.pool id hid hb hs, .refl _⟩

theorem releaseRef (s : State) (id : Byte) : Tends s (s.releaseRef id) := by
  rcases releaseRef_cases s id with ⟨-, e⟩ | ⟨g, hg, -, -, e⟩ | ⟨g, -, -, e⟩ <;> rw [e]
  · exact refl s
  · exact freeSegment (x := g) true (by rwa [State.id_of_segment? hg]) rfl
  · exact modSegment (fun _ => rfl) (fun _ => rfl) fun _ _ h => h

/-- What every single run touches, the whole run touches. -/
theorem forEach {α : Type} {f : α → State → State} (h : ∀ x s, Tends s (f x s)) (xs : List α) (s : State) :
    Tends s (Machine.forEach f xs s) := by
  induction xs generalizing s with
  | nil => exact refl s
  | cons x xs ih => exact (h x s).trans (ih (f x s))

end Tends

@[simp] theorem State.channel_releaseRef (s : State) (id : Byte) (d : Fin 4) : (s.releaseRef id).channel d = s.channel d := by
  simp [State.channel, (releaseRef_frame s id).1]

@[simp] theorem State.trigger_releaseRef (s : State) (id : Byte) (k : Fin 8) : (s.releaseRef id).trigger k = s.trigger k := by
  simp [State.trigger, (releaseRef_frame s id).2.2.2.1]

@[simp] theorem State.trigger_modChannel (s : State) (c : Fin 4) (f : Channel → Channel) (k : Fin 8) :
    (s.modChannel c f).trigger k = s.trigger k := rfl

@[simp] theorem State.trigger_notify (s : State) (j : NoticeKind) (src : Source) (d : List Byte) (k : Fin 8) :
    (s.notify j src d).trigger k = s.trigger k := rfl

/-! ### Operations that keep every reference accounted for -/

/-- An operation of the players after which the references are accounted for as before, and no queue has grown. -/
structure Plays (s t : State) : Prop extends Tends s t where
  refs : ∀ k, s.accounts k → t.accounts k
  queues : ∀ n, (∀ c, (s.channel c).queue.length ≤ n) → ∀ c, (t.channel c).queue.length ≤ n

namespace Plays

variable {s t u : State}

theorem refl (s : State) : Plays s s := ⟨Tends.refl s, fun _ => id, fun _ => id⟩

theorem trans (h : Plays s t) (h' : Plays t u) : Plays s u :=
  ⟨h.toTends.trans h'.toTends, fun k => h'.refs k ∘ h.refs k, fun n => h'.queues n ∘ h.queues n⟩

/-- What every single run keeps, the whole run keeps. -/
theorem forEach {α : Type} {f : α → State → State} (h : ∀ x s, Plays s (f x s)) (xs : List α) (s : State) :
    Plays s (Machine.forEach f xs s) := by
  induction xs generalizing s with
  | nil => exact refl s
  | cons x xs ih => exact (h x s).trans (ih (f x s))

theorem queues_modChannel {c : Fin 4} {f : Channel → Channel} (h : (f (s.channel c)).queue.length ≤ (s.channel c).queue.length)
    (n : Nat) (hn : ∀ d, (s.channel d).queue.length ≤ n) (d : Fin 4) : ((s.modChannel c f).channel d).queue.length ≤ n := by
  by_cases hd : d = c
  · subst hd
    rw [State.channel_modChannel_self]
    exact h.trans (hn d)
  · rw [State.channel_modChannel_other s hd]
    exact hn d

/-- A change of a channel that leaves the segments its queue names. -/
theorem modChannel (s : State) (c : Fin 4) (f : Channel → Channel)
    (h : (f (s.channel c)).queue.map (·.segment) = (s.channel c).queue.map (·.segment)) : Plays s (s.modChannel c f) :=
  ⟨Tends.modChannel s c f, fun _ ha => ha.modChannel h,
    queues_modChannel (le_of_eq (by simpa using congrArg List.length h))⟩

theorem notify (s : State) (k : NoticeKind) (src : Source) (d : List Byte) : Plays s (s.notify k src d) :=
  ⟨Tends.notify s k src d, fun _ ha => ha.congr rfl rfl, fun _ h => h⟩

theorem setTrigger (s : State) (k : Fin 8) (x : Trigger) : Plays s (s.setTrigger k x) :=
  ⟨Tends.setTrigger s k x, fun _ ha => ha.congr rfl rfl, fun _ h => h⟩

/-- A head leaves its queue and its reference is released. -/
theorem leaveHead {c : Fin 4} {e : Entry} {rest : List Entry} {f : Channel → Channel} (hq : (s.channel c).queue = e :: rest)
    (hf : (f (s.channel c)).queue = rest) : Plays s ((s.modChannel c f).releaseRef e.segment) := by
  refine ⟨(Tends.modChannel s c f).trans (Tends.releaseRef _ _), fun k ha => (ha.dropEntry hq hf).releaseRef, fun n hn d => ?_⟩
  rw [State.channel_releaseRef]
  exact queues_modChannel (by simp [hq, hf]) n hn d

theorem dropHead {c : Fin 4} {e : Entry} {rest : List Entry} (hq : (s.channel c).queue = e :: rest) :
    Plays s (s.dropHead c e rest) :=
  (leaveHead hq rfl).trans (notify ..)

theorem enterStopped (s : State) (c : Fin 4) : Plays s (s.enterStopped c) := modChannel s c _ rfl

theorem enterDrained (s : State) (c : Fin 4) : Plays s (s.enterDrained c) := (modChannel s c _ rfl).trans (notify ..)

theorem enterWaiting (s : State) (c : Fin 4) : Plays s (s.enterWaiting c) := modChannel s c _ rfl

theorem enterStarted {c : Fin 4} {e : Entry} {rest : List Entry} (hq : (s.channel c).queue = e :: rest) (st : SegState) :
    Plays s (s.enterStarted c e rest st) := by
  have hb (x : ChanState) : Plays s (s.modChannel c fun ch => { ch with state := x, queue := e.begun :: rest }) :=
    modChannel s c _ (by simp [hq, Entry.begun])
  cases st with
  | ready => exact hb .playing
  | filling | loading | failed => exact (hb .starved).trans (notify ..)

end Plays

@[simp] theorem channel_dropHead_self (s : State) (c : Fin 4) (e : Entry) (rest : List Entry) :
    (s.dropHead c e rest).channel c = { s.channel c with queue := rest } := by
  simp [State.dropHead]

theorem Plays.evalQueue {c : Fin 4} {q : List Entry} {s : State} (hq : (s.channel c).queue = q) :
    Plays s (State.evalQueue c q s) := by
  induction q generalizing s with
  | nil => exact Plays.enterDrained s c
  | cons e rest ih =>
    have h1 : Plays s (s.modChannel c fun ch => { ch with activeGen := e.generator.getD ch.defaultGen }) :=
      Plays.modChannel s c _ rfl
    have hq1 : ((s.modChannel c fun ch => { ch with activeGen := e.generator.getD ch.defaultGen }).channel c).queue =
        e :: rest := by simp [hq]
    unfold State.evalQueue
    cases e.start with
    | onTrigger k => exact h1.trans (Plays.enterWaiting _ c)
    | immediate =>
      simp only
      split
      · next st _ => exact h1.trans (Plays.enterStarted hq1 st)
      · exact h1.trans ((Plays.dropHead hq1).trans (ih (by simp)))

namespace Plays

variable {s : State} {c : Fin 4} {e : Entry} {rest : List Entry}

theorem evaluateHead (s : State) (c : Fin 4) : Plays s (s.evaluateHead c) := evalQueue rfl

theorem skipHead (hq : (s.channel c).queue = e :: rest) : Plays s (s.skipHead c e rest) :=
  (dropHead hq).trans (evalQueue (by simp))

theorem meetStart (hq : (s.channel c).queue = e :: rest) : Plays s (s.meetStart c e rest) := by
  unfold State.meetStart
  split
  · exact enterStarted hq _
  · exact skipHead hq

theorem readyReport (id : Byte) (c : Fin 4) (s : State) : Plays s (State.readyReport id c s) := by
  unfold State.readyReport
  split
  · split
    · exact modChannel s c _ rfl
    · exact refl s
  · exact refl s

theorem failedReport (id : Byte) (c : Fin 4) (s : State) : Plays s (State.failedReport id c s) := by
  unfold State.failedReport
  split
  · next hq =>
    split
    · exact skipHead hq
    · exact refl s
  · exact refl s

theorem reportReady (s : State) (id : Byte) : Plays s (s.reportReady id) := forEach (readyReport id) _ s

theorem reportFailed (s : State) (id : Byte) : Plays s (s.reportFailed id) := forEach (failedReport id) _ s

theorem map_segment_setHead {f : Entry → Entry} (h : ∀ e, (f e).segment = e.segment) (q : List Entry) :
    (setHead f q).map (·.segment) = q.map (·.segment) := by
  cases q <;> simp [setHead, h]

theorem setHead (s : State) (c : Fin 4) {f : Entry → Entry} (h : ∀ e, (f e).segment = e.segment) :
    Plays s (s.modChannel c fun ch => { ch with queue := Machine.setHead f ch.queue }) :=
  modChannel s c _ (map_segment_setHead h _)

theorem holdBack (s : State) (ctx : TickContext) (c : Fin 4) : Plays s (s.holdBack ctx c) := by
  unfold State.holdBack
  split
  · exact refl s
  · split
    · exact setHead s c fun _ => rfl
    · exact refl s

theorem takeFiring (k : Fin 8) (ctx : TickContext) (c : Fin 4) (s : State) : Plays s (State.takeFiring k ctx c s) := by
  unfold State.takeFiring
  split
  · split
    · next hq => exact (meetStart hq).trans (holdBack ..)
    · exact refl s
  · split
    · exact setHead s c fun _ => rfl
    · exact refl s

theorem fireTrigger (k : Fin 8) (ctx : TickContext) (s : State) : Plays s (State.fireTrigger k ctx s) := by
  have h (x : Trigger) : Plays s (Machine.forEach (State.takeFiring k ctx) allChannels (s.setTrigger k x)) :=
    (setTrigger s k x).trans (forEach (takeFiring k ctx) _ _)
  unfold State.fireTrigger
  simp only
  split
  · exact (h _).trans (notify ..)
  · exact h _

theorem markFiring (k : Fin 8) (ctx : TickContext) (s : State) : Plays s (State.markFiring k ctx s) := by
  unfold State.markFiring
  split
  · exact refl s
  · exact fireTrigger k ctx s

theorem applyMark (c g : Fin 4) (n : Word) (m : Mark) (s : State) : Plays s (State.applyMark c g n m s) := by
  have h : Plays s (s.modChannel c (Channel.mark g m)) := modChannel s c _ (by unfold Channel.mark; split <;> rfl)
  unfold State.applyMark
  simp only
  split
  · exact h.trans (markFiring ..)
  · exact h

theorem endAction (s : State) (c : Fin 4) (a : EndAction) : Plays s (s.endAction c a) := by
  unfold State.endAction
  split
  · exact refl s
  · split
    · exact refl s
    · exact modChannel s c _ rfl

theorem entryDone (s : State) (c : Fin 4) (e : Entry) : Plays s (s.entryDone c e) := by
  unfold State.entryDone
  split
  · exact notify ..
  · exact refl s

end Plays

@[simp] theorem channel_entryDone (s : State) (c : Fin 4) (e : Entry) (d : Fin 4) : (s.entryDone c e).channel d = s.channel d := by
  unfold State.entryDone; split <;> rfl

namespace Plays

variable {s : State} {c : Fin 4} {e : Entry} {rest : List Entry}

/-- The head that completes may have run on since it was read from the queue; it names the same segment. -/
theorem completeHead {e' : Entry} (he : e'.segment = e.segment) (hq : (s.channel c).queue = e :: rest) :
    Plays s (s.completeHead c e' rest) := by
  have h1 : Plays s (((s.entryDone c e').modChannel c fun ch => { ch with queue := rest }).releaseRef e'.segment) := by
    rw [he]
    exact (entryDone s c e').trans (leaveHead (by simpa using hq) rfl)
  unfold State.completeHead
  simp only
  split
  · exact h1.trans (enterStopped _ c)
  · exact h1.trans ((evaluateHead _ c).trans (endAction ..))

theorem passEnd (hq : (s.channel c).queue = e :: rest) : Plays s (s.passEnd c e rest) := by
  unfold State.passEnd
  simp only
  split
  · exact completeHead (e := e) rfl hq
  · exact modChannel s c _ (by simp [hq])

theorem advance (s : State) (c : Fin 4) (n : Nat) : Plays s (s.advance c n) := by
  unfold State.advance
  split
  · next e rest hq =>
    have h1 : Plays s (s.modChannel c fun ch =>
        { ch with counter := ch.counter + 1, queue := { e with cursor := e.cursor + 1 } :: rest }) :=
      modChannel s c _ (by simp [hq])
    simp only
    split
    · exact h1.trans (passEnd (by simp))
    · exact h1
  · exact refl s

theorem emit (s : State) (d : Delivery) : Plays s (s.emit d) := by
  unfold State.emit
  split
  · split
    · exact (modChannel s d.chan _ (by simp)).trans ((forEach (applyMark _ _ _) _ _).trans (advance ..))
    · exact refl s
  · exact refl s

theorem takeTick (s : State) (d : Delivery) : Plays s (s.takeTick d) := by
  have h : Plays s (s.modChannel d.chan fun ch =>
      { ch.letPass d.gen with m0 := ch.m0.endPulse d.gen, m1 := ch.m1.endPulse d.gen }) := by
    refine modChannel s d.chan _ ?_
    unfold Channel.letPass
    split
    · exact map_segment_setHead (f := fun e => { e with spent := e.spent - 1 }) (fun _ => rfl) _
    · rfl
  rcases State.takeTick_cases s d with ⟨-, e⟩ | ⟨-, e⟩ <;> rw [e]
  · exact h.trans (emit ..)
  · exact h

theorem startChannel (c : Fin 4) (s : State) : Plays s (State.startChannel c s) :=
  (modChannel s c _ rfl).trans (evaluateHead _ c)

theorem removeStarted (s : State) (c : Fin 4) : Plays s (s.removeStarted c) := by
  unfold State.removeStarted
  split
  · next hq =>
    split
    · exact leaveHead hq rfl
    · exact refl s
  · exact refl s

theorem stopNow (c : Fin 4) (s : State) : Plays s (State.stopNow c s) := by
  unfold State.stopNow
  split
  · exact (removeStarted s c).trans (enterStopped _ c)
  · exact refl s

theorem stopAtPassEnd (c : Fin 4) (s : State) : Plays s (State.stopAtPassEnd c s) := by
  unfold State.stopAtPassEnd
  split
  · exact setHead s c fun _ => rfl
  · exact stopNow c s

theorem stopPlanChannels (s : State) : Plays s s.stopPlanChannels := forEach stopNow _ s

end Plays

/-! ### FLUSH: entries that leave together and are released one after another -/

/-- The references that entries hold. -/
def heldBy (k : Byte → Nat) (es : List Entry) : Byte → Nat := fun id => k id + namingIn id es

theorem State.accounts.releaseAll {s : State} {k : Byte → Nat} {es : List Entry} (h : s.accounts (heldBy k es)) :
    (forEach (fun (e : Entry) s => s.releaseRef e.segment) es s).accounts k := by
  induction es generalizing s with
  | nil =>
    have e0 : heldBy k [] = k := by funext id; simp [heldBy]
    exact e0 ▸ h
  | cons e es ih =>
    have e1 : heldBy k (e :: es) = oneMore (heldBy k es) e.segment := by
      funext id
      simp only [heldBy, oneMore, namingIn_cons]
      omega
    rw [e1] at h
    exact ih h.releaseRef

@[simp] theorem channel_releaseAll (es : List Entry) (s : State) (c : Fin 4) :
    (forEach (fun (e : Entry) s => s.releaseRef e.segment) es s).channel c = s.channel c :=
  forEach_keeps (·.channel c) (fun e s => State.channel_releaseRef s e.segment c) es s

theorem Channel.kept_flushed (ch : Channel) (id : Byte) : namingIn id ch.kept + namingIn id ch.flushed = namingIn id ch.queue := by
  rw [← namingIn_append]
  cases h : ch.headStarted
  · simp [Channel.kept, Channel.flushed, h]
  · simp only [Channel.kept, Channel.flushed, h, if_true, List.take_append_drop]

theorem Plays.flush (s : State) (c : Fin 4) : Plays s (s.flush c) := by
  have h1 : Plays s (Machine.forEach (fun (e : Entry) s => s.releaseRef e.segment) (s.channel c).flushed
      (s.modChannel c fun x => { x with queue := (s.channel c).kept })) := by
    refine ⟨(Tends.modChannel s c _).trans (Tends.forEach (fun (e : Entry) s => Tends.releaseRef s e.segment) _ _), fun k ha => ?_,
      fun n hn d => ?_⟩
    · refine State.accounts.releaseAll (ha.setChannel fun id => ?_)
      have := (s.channel c).kept_flushed id
      simp only [heldBy]
      omega
    · rw [channel_releaseAll]
      refine queues_modChannel ?_ n hn d
      cases h : (s.channel c).headStarted <;> simp [Channel.kept, h]
  unfold State.flush
  simp only
  split
  · exact h1.trans (Plays.evaluateHead _ c)
  · exact h1

end Sys2Proof.Machine

/-! ## The channel players: which channels an operation moves, and the table of channel states (R27–R29) -/

namespace Sys2Proof.Machine

/-! ### Operations on one channel -/

/-- All channels but `c` are left. -/
structure Only (c : Fin 4) (s t : State) : Prop where
  other : ∀ d, d ≠ c → t.channel d = s.channel d

namespace Only

variable {c : Fin 4} {s t u : State}

theorem refl (c : Fin 4) (s : State) : Only c s s := ⟨fun _ _ => rfl⟩

theorem trans (h : Only c s t) (h' : Only c t u) : Only c s u :=
  ⟨fun d hd => (h'.other d hd).trans (h.other d hd)⟩

theorem modChannel (s : State) (c : Fin 4) (f : Channel → Channel) : Only c s (s.modChannel c f) :=
  ⟨fun _ hd => State.channel_modChannel_other s hd f⟩

theorem notify (c : Fin 4) (s : State) (k : NoticeKind) (src : Source) (d : List Byte) : Only c s (s.notify k src d) :=
  ⟨fun _ _ => rfl⟩

theorem releaseRef (c : Fin 4) (s : State) (id : Byte) : Only c s (s.releaseRef id) :=
  ⟨fun d _ => State.channel_releaseRef s id d⟩

theorem enterStarted (s : State) (c : Fin 4) (e : Entry) (rest : List Entry) (st : SegState) :
    Only c s (s.enterStarted c e rest st) := by
  unfold State.enterStarted
  cases st with
  | ready => exact modChannel ..
  | filling | loading | failed => exact (modChannel ..).trans (notify ..)

theorem dropHead (s : State) (c : Fin 4) (e : Entry) (rest : List Entry) : Only c s (s.dropHead c e rest) :=
  (modChannel ..).trans ((releaseRef ..).trans (notify ..))

theorem evalQueue (c : Fin 4) (q : List Entry) (s : State) : Only c s (State.evalQueue c q s) := by
  induction q generalizing s with
  | nil => exact (modChannel ..).trans (notify ..)
  | cons e rest ih =>
    unfold State.evalQueue
    cases e.start with
    | onTrigger k => exact (modChannel ..).trans (modChannel ..)
    | immediate =>
      simp only
      split
      · exact (modChannel ..).trans (enterStarted ..)
      · exact (modChannel ..).trans ((dropHead ..).trans (ih _))

theorem evaluateHead (s : State) (c : Fin 4) : Only c s (s.evaluateHead c) := evalQueue ..

theorem skipHead (s : State) (c : Fin 4) (e : Entry) (rest : List Entry) : Only c s (s.skipHead c e rest) :=
  (dropHead ..).trans (evalQueue ..)

theorem meetStart (s : State) (c : Fin 4) (e : Entry) (rest : List Entry) : Only c s (s.meetStart c e rest) := by
  unfold State.meetStart
  split
  · exact enterStarted ..
  · exact skipHead ..

theorem readyReport (id : Byte) (c : Fin 4) (s : State) : Only c s (State.readyReport id c s) := by
  unfold State.readyReport
  split
  · split
    · exact modChannel ..
    · exact refl c s
  · exact refl c s

theorem failedReport (id : Byte) (c : Fin 4) (s : State) : Only c s (State.failedReport id c s) := by
  unfold State.failedReport
  split
  · split
    · exact skipHead ..
    · exact refl c s
  · exact refl c s

theorem holdBack (s : State) (ctx : TickContext) (c : Fin 4) : Only c s (s.holdBack ctx c) := by
  unfold State.holdBack
  split
  · exact refl c s
  · split
    · exact modChannel ..
    · exact refl c s

theorem takeFiring (k : Fin 8) (ctx : TickContext) (c : Fin 4) (s : State) : Only c s (State.takeFiring k ctx c s) := by
  unfold State.takeFiring
  split
  · split
    · exact (meetStart ..).trans (holdBack ..)
    · exact refl c s
  · split
    · exact modChannel ..
    · exact refl c s

theorem endAction (s : State) (c : Fin 4) (a : EndAction) : Only c s (s.endAction c a) := by
  unfold State.endAction
  split
  · exact refl c s
  · split
    · exact refl c s
    · exact modChannel ..

theorem entryDone (s : State) (c d : Fin 4) (e : Entry) : Only c s (s.entryDone d e) :=
  ⟨fun _ _ => channel_entryDone ..⟩

theorem completeHead (s : State) (c : Fin 4) (e : Entry) (rest : List Entry) : Only c s (s.completeHead c e rest) := by
  have h1 : Only c s (((s.entryDone c e).modChannel c fun ch => { ch with queue := rest }).releaseRef e.segment) :=
    (entryDone ..).trans ((modChannel ..).trans (releaseRef ..))
  unfold State.completeHead
  simp only
  split
  · exact h1.trans (modChannel ..)
  · exact h1.trans ((evaluateHead ..).trans (endAction ..))

theorem passEnd (s : State) (c : Fin 4) (e : Entry) (rest : List Entry) : Only c s (s.passEnd c e rest) := by
  unfold State.passEnd
  simp only
  split
  · exact completeHead ..
  · exact modChannel ..

theorem advance (s : State) (c : Fin 4) (n : Nat) : Only c s (s.advance c n) := by
  unfold State.advance
  split
  · simp only
    split
    · exact (modChannel ..).trans (passEnd ..)
    · exact modChannel ..
  · exact refl c s

theorem startChannel (c : Fin 4) (s : State) : Only c s (State.startChannel c s) := (modChannel ..).trans (evaluateHead ..)

theorem removeStarted (s : State) (c : Fin 4) : Only c s (s.removeStarted c) := by
  unfold State.removeStarted
  split
  · split
    · exact (modChannel ..).trans (releaseRef ..)
    · exact refl c s
  · exact refl c s

theorem stopNow (c : Fin 4) (s : State) : Only c s (State.stopNow c s) := by
  unfold State.stopNow
  split
  · exact (removeStarted ..).trans (modChannel ..)
  · exact refl c s

theorem stopAtPassEnd (c : Fin 4) (s : State) : Only c s (State.stopAtPassEnd c s) := by
  unfold State.stopAtPassEnd
  split
  · exact modChannel ..
  · exact stopNow c s

theorem flush (s : State) (c : Fin 4) : Only c s (s.flush c) := by
  have h1 (es : List Entry) (x : Channel → Channel) :
      Only c s (forEach (fun (e : Entry) s => s.releaseRef e.segment) es (s.modChannel c x)) := by
    refine ⟨fun d hd => ?_⟩
    rw [channel_releaseAll]
    exact State.channel_modChannel_other s hd x
  unfold State.flush
  simp only
  split
  · exact (h1 _ _).trans (evaluateHead ..)
  · exact h1 _ _

end Only

/-- Channels visited one after another: each visit moves its own channel, and what it makes of it is seen in the channel alone. -/
theorem forEach_channel {f : Fin 4 → State → State} (only : ∀ c s, Only c s (f c s)) {c : Fin 4} {s : State} {x : Channel}
    (self : ∀ t : State, t.channel c = s.channel c → (f c t).channel c = x) {xs : List (Fin 4)} (hx : xs.Nodup) :
    (forEach f xs s).channel c = if c ∈ xs then x else s.channel c := by
  have past (ys : List (Fin 4)) (t : State) (hc : c ∉ ys) : (forEach f ys t).channel c = t.channel c := by
    induction ys generalizing t with
    | nil => rfl
    | cons y ys ih =>
      rw [List.mem_cons, not_or] at hc
      exact (ih _ hc.2).trans ((only y t).other c hc.1)
  have general (t : State) (ht : t.channel c = s.channel c) :
      (forEach f xs t).channel c = if c ∈ xs then x else s.channel c := by
    induction xs generalizing t with
    | nil => simpa [forEach] using ht
    | cons y ys ih =>
      obtain ⟨hy, hys⟩ := List.nodup_cons.mp hx
      by_cases hc : c = y
      · subst hc
        rw [if_pos (by simp)]
        exact (past ys _ hy).trans (self t ht)
      · have := ih hys (f y t) (((only y t).other c hc).trans ht)
        simpa [forEach, hc] using this
  exact general s rfl

/-! ### The table of states, state by state -/

theorem channelsFormed_iff (s : State) : s.channelsFormed = true ↔ ∀ c, (s.channel c).formed = true := by
  rw [State.channelsFormed, List.all_eq_true]
  exact ⟨fun h c => h c (by fin_cases c <;> simp [allChannels]), fun h c _ => h c⟩

theorem ChanState.all (x : ChanState) : x = .stopped ∨ x = .waiting ∨ x = .drained ∨ (x = .playing ∨ x = .starved) := by
  cases x <;> simp

/-- All entries of a queue are unstarted and hold no tick back. -/
def waiting (q : List Entry) : Prop := q.all Entry.waits = true

theorem waiting_cons {e : Entry} {q : List Entry} : waiting (e :: q) ↔ e.waits = true ∧ waiting q := by
  simp [waiting]

namespace Channel

variable {ch : Channel}

theorem formed_stopped (h : ch.state = .stopped) : ch.formed = true ↔
    ch.output = ch.restCode ∧ ch.m0 = .low ∧ ch.m1 = .low ∧ ch.activeGen = ch.defaultGen ∧ waiting ch.queue := by
  simp [Channel.formed, h, waiting, and_assoc]

theorem formed_drained (h : ch.state = .drained) : ch.formed = true ↔ ch.queue = [] ∧ ch.activeGen = ch.defaultGen := by
  cases hq : ch.queue <;> simp [Channel.formed, h, hq]

theorem formed_waiting (h : ch.state = .waiting) : ch.formed = true ↔ ∃ e rest, ch.queue = e :: rest ∧ e.start ≠ .immediate ∧
    waiting ch.queue ∧ ch.activeGen = generatorFor ch.defaultGen ch.queue := by
  cases hq : ch.queue <;> simp [Channel.formed, h, hq, waiting, and_assoc]

/-- PLAYING or STARVED. -/
theorem formed_started (h : ch.state = .playing ∨ ch.state = .starved) : ch.formed = true ↔ ∃ e rest, ch.queue = e :: rest ∧
    e.started = true ∧ waiting rest ∧ ch.activeGen = generatorFor ch.defaultGen ch.queue := by
  cases hq : ch.queue <;> rcases h with h | h <;> simp [Channel.formed, h, hq, waiting, and_assoc]

/-- Outside STOPPED the table names the state, the queue and the two generators alone. -/
theorem formed_congr {x : Channel} (h : ch.state ≠ .stopped) (hs : x.state = ch.state) (hq : x.queue = ch.queue)
    (ha : x.activeGen = ch.activeGen) (hd : x.defaultGen = ch.defaultGen) : x.formed = ch.formed := by
  unfold Channel.formed
  rw [hs, hq, ha, hd]
  cases hst : ch.state with
  | stopped => exact absurd hst h
  | waiting | playing | starved | drained => cases ch.queue <;> rfl

theorem formed_of_fields {x : Channel} (hf : ch.formed = true) (h : ch.state ≠ .stopped) (hs : x.state = ch.state)
    (hq : x.queue = ch.queue) (ha : x.activeGen = ch.activeGen) (hd : x.defaultGen = ch.defaultGen) : x.formed = true :=
  (formed_congr h hs hq ha hd).trans hf

/-- A started head may change in its runtime fields. -/
theorem formed_setHead {f : Entry → Entry} (hf : ∀ e, (f e).started = e.started) (hg : ∀ e, (f e).generator = e.generator)
    (hs : ch.headStarted = true) (h : ch.formed = true) : ({ ch with queue := setHead f ch.queue } : Channel).formed = true := by
  have hst : ch.state = .playing ∨ ch.state = .starved := by simpa [Channel.headStarted] using hs
  obtain ⟨e, rest, hq, he, hw, ha⟩ := (formed_started hst).mp h
  refine (formed_started (ch := { ch with queue := setHead f ch.queue }) hst).mpr
    ⟨f e, rest, by simp [hq, setHead], by rw [hf, he], hw, ?_⟩
  simp [ha, hq, setHead, generatorFor, hg]

end Channel

/-- An operation keeps the table of states. -/
def Forms (s t : State) : Prop := (∀ c, (s.channel c).formed = true) → ∀ c, (t.channel c).formed = true

namespace Forms

variable {s t u : State}

theorem refl (s : State) : Forms s s := id

theorem trans (h : Forms s t) (h' : Forms t u) : Forms s u := h' ∘ h

theorem forEach {α : Type} {f : α → State → State} (h : ∀ x s, Forms s (f x s)) (xs : List α) (s : State) :
    Forms s (Machine.forEach f xs s) := by
  induction xs generalizing s with
  | nil => exact refl s
  | cons x xs ih => exact (h x s).trans (ih (f x s))

/-- Of an operation on one channel, that channel decides. -/
theorem of_only {c : Fin 4} (h : Only c s t) (hc : (s.channel c).formed = true → (t.channel c).formed = true) : Forms s t := by
  intro hs d
  by_cases hd : d = c
  · exact hd ▸ hc (hs c)
  · exact h.other d hd ▸ hs d

theorem congr (h : t.channels = s.channels) : Forms s t := fun hs c => by
  have : t.channel c = s.channel c := by simp [State.channel, h]
  exact this ▸ hs c

theorem modChannel {c : Fin 4} {f : Channel → Channel} (h : (s.channel c).formed = true → (f (s.channel c)).formed = true) :
    Forms s (s.modChannel c f) := of_only (Only.modChannel s c f) (by simpa using h)

end Forms

/-! ### Head evaluation ends in a state that the table allows -/

theorem channel_enterStarted (s : State) (c : Fin 4) (e : Entry) (rest : List Entry) (st : SegState) :
    (s.enterStarted c e rest st).channel c = { s.channel c with
      state := if st = .ready then .playing else .starved, queue := e.begun :: rest } := by
  cases st <;> simp [State.enterStarted]

/-- A head that begins on the generator it names. -/
theorem formed_begun {ch : Channel} {e : Entry} {rest : List Entry} (hw : waiting rest)
    (ha : ch.activeGen = generatorFor ch.defaultGen (e :: rest)) (st : SegState) :
    ({ ch with state := if st = .ready then .playing else .starved, queue := e.begun :: rest } : Channel).formed = true := by
  refine (Channel.formed_started (by cases st <;> simp)).mpr ⟨e.begun, rest, rfl, rfl, hw, ?_⟩
  simpa [generatorFor, Entry.begun] using ha

/-- Head evaluation changes the state, the active generator and the queue of its channel; it does not stop it, and where the entries
are unstarted the table of states holds (R28, R30). -/
theorem evalQueue_channel {c : Fin 4} {q : List Entry} {s : State} (hq : (s.channel c).queue = q) :
    ∃ st g q', (State.evalQueue c q s).channel c = { s.channel c with state := st, activeGen := g, queue := q' } ∧
      st ≠ .stopped ∧ (waiting q → ((State.evalQueue c q s).channel c).formed = true) := by
  induction q generalizing s with
  | nil =>
    refine ⟨.drained, (s.channel c).defaultGen, [], ?_, by simp, fun _ => ?_⟩
    · simp only [State.evalQueue, State.enterDrained, State.channel_notify, State.channel_modChannel_self, ← hq]
    · exact (Channel.formed_drained (by simp [State.evalQueue, State.enterDrained])).mpr
        (by simp [State.evalQueue, State.enterDrained, hq])
  | cons e rest ih =>
    have h1 : (s.modChannel c fun ch => { ch with activeGen := e.generator.getD ch.defaultGen }).channel c =
        { s.channel c with activeGen := generatorFor (s.channel c).defaultGen (e :: rest) } := by simp [generatorFor]
    unfold State.evalQueue
    cases hs : e.start with
    | onTrigger k =>
      refine ⟨.waiting, generatorFor (s.channel c).defaultGen (e :: rest), e :: rest, ?_, by simp, fun hw => ?_⟩
      · simp only [State.enterWaiting, State.channel_modChannel_self, generatorFor, ← hq]
      · refine (Channel.formed_waiting (by simp [State.enterWaiting])).mpr ⟨e, rest, ?_⟩
        simp [State.enterWaiting, hq, hs, hw, generatorFor]
    | immediate =>
      simp only
      split
      · next st _ =>
        refine ⟨if st = .ready then .playing else .starved, generatorFor (s.channel c).defaultGen (e :: rest),
          e.begun :: rest, ?_, ?_, fun hw => ?_⟩
        · rw [channel_enterStarted, h1]
        · split <;> simp
        · rw [channel_enterStarted, h1]
          exact formed_begun (waiting_cons.mp hw).2 rfl st
      · obtain ⟨st, g, q', he, hst, hf⟩ := ih (s := (s.modChannel c fun ch =>
          { ch with activeGen := e.generator.getD ch.defaultGen }).dropHead c e rest) (by simp)
        refine ⟨st, g, q', ?_, hst, fun hw => hf (waiting_cons.mp hw).2⟩
        rw [he]
        simp

theorem evaluateHead_channel (s : State) (c : Fin 4) :
    ∃ st g q', (s.evaluateHead c).channel c = { s.channel c with state := st, activeGen := g, queue := q' } ∧
      st ≠ .stopped ∧ (waiting (s.channel c).queue → ((s.evaluateHead c).channel c).formed = true) :=
  evalQueue_channel rfl

theorem evaluateHead_formed {s : State} {c : Fin 4} (h : waiting (s.channel c).queue) :
    ((s.evaluateHead c).channel c).formed = true := by
  obtain ⟨_, _, _, -, -, hf⟩ := evaluateHead_channel s c
  exact hf h

theorem skipHead_formed {s : State} {c : Fin 4} {rest : List Entry} (h : waiting rest) (e : Entry) :
    ((s.skipHead c e rest).channel c).formed = true := by
  obtain ⟨_, _, _, -, -, hf⟩ := evalQueue_channel (s := s.dropHead c e rest) (c := c) (q := rest) (by simp)
  exact hf h

/-! ### The operations that keep the table of states -/

theorem Channel.waiting_of_waitsOn {ch : Channel} {k : Fin 8} (h : ch.waitsOn = some k) :
    ch.state = .waiting ∧ ∃ e rest, ch.queue = e :: rest ∧ e.start = .onTrigger k := by
  unfold Channel.waitsOn at h
  split at h
  · next e rest hs hq =>
    split at h
    · next hst => cases h; exact ⟨hs, e, rest, hq, hst⟩
    · cases h
  · cases h

theorem Channel.started_of_untilOf {ch : Channel} {k : Fin 8} (h : ch.untilOf = some k) :
    ch.headStarted = true ∧ ∃ e rest, ch.queue = e :: rest ∧ e.untilTrig = some k := by
  unfold Channel.untilOf at h
  split at h
  · next e rest hq =>
    split at h
    · next hs => exact ⟨hs, e, rest, hq, h⟩
    · cases h
  · cases h

theorem Channel.headStarted_iff {ch : Channel} : ch.headStarted = true ↔ ch.state = .playing ∨ ch.state = .starved := by
  simp [Channel.headStarted]

/-- A channel that STOPS shows its rest code with both lines low on its default generator (R29). -/
theorem enterStopped_formed {s : State} {c : Fin 4} (h : waiting (s.channel c).queue) :
    ((s.enterStopped c).channel c).formed = true :=
  (Channel.formed_stopped (by simp [State.enterStopped])).mpr (by simp [State.enterStopped, h])

namespace Forms

theorem readyReport (id : Byte) (c : Fin 4) (s : State) : Forms s (State.readyReport id c s) := by
  unfold State.readyReport
  split
  · next e rest hs hq =>
    split
    · refine modChannel fun h => ?_
      obtain ⟨e, rest, hr⟩ := (Channel.formed_started (.inr hs)).mp h
      exact (Channel.formed_started (.inl rfl)).mpr ⟨e, rest, hr⟩
    · exact refl s
  · exact refl s

theorem failedReport (id : Byte) (c : Fin 4) (s : State) : Forms s (State.failedReport id c s) := by
  unfold State.failedReport
  split
  · next e rest hs hq =>
    split
    · refine of_only (Only.skipHead ..) fun h => ?_
      obtain ⟨e', rest', hq', -, hw, -⟩ := (Channel.formed_started (.inr hs)).mp h
      obtain ⟨rfl, rfl⟩ := List.cons_eq_cons.mp (hq.symm.trans hq')
      exact skipHead_formed hw e
    · exact refl s
  · exact refl s

theorem reportReady (s : State) (id : Byte) : Forms s (s.reportReady id) := forEach (readyReport id) _ s

theorem reportFailed (s : State) (id : Byte) : Forms s (s.reportFailed id) := forEach (failedReport id) _ s

theorem holdBack (s : State) (ctx : TickContext) (c : Fin 4) : Forms s (s.holdBack ctx c) := by
  unfold State.holdBack
  split
  · exact refl s
  · split
    · next hc => exact modChannel (Channel.formed_setHead (fun _ => rfl) (fun _ => rfl) hc.1)
    · exact refl s

theorem takeFiring (k : Fin 8) (ctx : TickContext) (c : Fin 4) (s : State) : Forms s (State.takeFiring k ctx c s) := by
  unfold State.takeFiring
  split
  · next hw =>
    obtain ⟨hs, -⟩ := Channel.waiting_of_waitsOn hw
    split
    · next e rest hq =>
      refine trans (of_only (Only.meetStart ..) fun h => ?_) (holdBack _ ctx c)
      obtain ⟨e', rest', hq', -, hwait, ha⟩ := (Channel.formed_waiting hs).mp h
      rw [hq] at hwait ha
      unfold State.meetStart
      split
      · rw [channel_enterStarted]
        exact formed_begun (waiting_cons.mp hwait).2 ha _
      · exact skipHead_formed (waiting_cons.mp hwait).2 e
    · exact refl s
  · split
    · next hu =>
      exact modChannel (Channel.formed_setHead (fun _ => rfl) (fun _ => rfl) (Channel.started_of_untilOf hu).1)
    · exact refl s

theorem fireTrigger (k : Fin 8) (ctx : TickContext) (s : State) : Forms s (State.fireTrigger k ctx s) := by
  have h (x : Trigger) : Forms s (Machine.forEach (State.takeFiring k ctx) allChannels (s.setTrigger k x)) :=
    (congr rfl : Forms s (s.setTrigger k x)).trans (forEach (takeFiring k ctx) _ _)
  unfold State.fireTrigger
  simp only
  split
  · exact (h _).trans (congr rfl)
  · exact h _

end Forms

/-! ### A started head at a firing -/

/-- What a firing of `k` makes of a channel with a started head: released where the head names `k` as until (R44). -/
def Channel.freedBy (k : Fin 8) (ch : Channel) : Channel :=
  if ch.untilOf = some k then { ch with queue := setHead (fun e => { e with released := true }) ch.queue } else ch

theorem takeFiring_started {s : State} {c : Fin 4} (h : (s.channel c).headStarted = true) (k : Fin 8) (ctx : TickContext) :
    (State.takeFiring k ctx c s).channel c = (s.channel c).freedBy k := by
  have hw : (s.channel c).waitsOn ≠ some k := fun hw => by
    have := (Channel.waiting_of_waitsOn hw).1
    simp [Channel.headStarted, this] at h
  unfold State.takeFiring Channel.freedBy
  rw [if_neg hw]
  split
  · rw [State.channel_modChannel_self]
  · rfl

@[simp] theorem fireTrigger_notify (k : Fin 8) (ctx : TickContext) (s : State) :
    ∃ x : Trigger, ∀ c, (State.fireTrigger k ctx s).channel c =
      (forEach (State.takeFiring k ctx) allChannels (s.setTrigger k x)).channel c := by
  refine ⟨{ s.trigger k with fires := (s.trigger k).fires + 1, captured := s.trig.confirmed }, fun c => ?_⟩
  unfold State.fireTrigger
  simp only
  split <;> rfl

theorem fireTrigger_started {s : State} {c : Fin 4} (h : (s.channel c).headStarted = true) (k : Fin 8) (ctx : TickContext) :
    (State.fireTrigger k ctx s).channel c = (s.channel c).freedBy k := by
  obtain ⟨x, hx⟩ := fireTrigger_notify k ctx s
  have := forEach_channel (f := State.takeFiring k ctx) (Only.takeFiring k ctx) (c := c) (s := s.setTrigger k x)
    (x := (s.channel c).freedBy k)
    (fun t ht => by
      rw [State.channel_setTrigger] at ht
      rw [takeFiring_started (ht ▸ h), ht]) (xs := allChannels) (by decide)
  rw [hx, this, if_pos (by fin_cases c <;> simp [allChannels])]

@[simp] theorem Channel.freedBy_state (k : Fin 8) (ch : Channel) : (ch.freedBy k).state = ch.state := by
  unfold Channel.freedBy; split <;> rfl

@[simp] theorem Channel.mark_state (g : Fin 4) (m : Mark) (ch : Channel) : (ch.mark g m).state = ch.state := by
  unfold Channel.mark; split <;> rfl

/-- A channel that plays goes on playing through the marks of its sample. -/
theorem applyMark_playing {c : Fin 4} {s : State} (h : (s.channel c).state = .playing) (g : Fin 4) (n : Word) (m : Mark) :
    ((State.applyMark c g n m s).channel c).state = .playing := by
  have h1 : ((s.modChannel c (Channel.mark g m)).channel c).state = .playing := by simp [h]
  unfold State.applyMark
  simp only
  split
  · unfold State.markFiring
    split
    · exact h1
    · rw [fireTrigger_started (Channel.headStarted_iff.mpr (.inl h1)), Channel.freedBy_state, h1]
  · exact h1

namespace Forms

/-- A mark may move the lines of a channel that is not STOPPED. -/
theorem applyMark {c : Fin 4} {s : State} (h : (s.channel c).state = .playing) (g : Fin 4) (n : Word) (m : Mark) :
    Forms s (State.applyMark c g n m s) := by
  have h1 : Forms s (s.modChannel c (Channel.mark g m)) := by
    refine modChannel fun hf => ?_
    rw [Channel.formed_congr (ch := s.channel c) (by simp [h]) (by simp) ?_ ?_ ?_]
    · exact hf
    all_goals unfold Channel.mark; split <;> rfl
  unfold State.applyMark
  simp only
  split
  · unfold State.markFiring
    split
    · exact h1
    · exact h1.trans (fireTrigger _ _ _)
  · exact h1

theorem applyMarks {c : Fin 4} {s : State} (h : (s.channel c).state = .playing) (g : Fin 4) (n : Word) (ms : List Mark) :
    Forms s (Machine.forEach (State.applyMark c g n) ms s) ∧
      ((Machine.forEach (State.applyMark c g n) ms s).channel c).state = .playing := by
  induction ms generalizing s with
  | nil => exact ⟨refl s, h⟩
  | cons m ms ih =>
    obtain ⟨h1, h2⟩ := ih (applyMark_playing h g n m)
    exact ⟨(applyMark h g n m).trans h1, h2⟩

theorem endAction {s : State} {c : Fin 4} (hs : (s.channel c).state ≠ .stopped) (a : EndAction) :
    Forms s (s.endAction c a) := by
  unfold State.endAction
  split
  · exact refl s
  · split
    · exact refl s
    · refine modChannel fun h => ?_
      exact Channel.formed_of_fields (ch := s.channel c) h hs rfl rfl rfl rfl

end Forms

theorem endAction_formed {s : State} {c : Fin 4} (hs : (s.channel c).state ≠ .stopped) (hf : (s.channel c).formed = true)
    (a : EndAction) : ((s.endAction c a).channel c).formed = true := by
  unfold State.endAction
  split
  · exact hf
  · split
    · exact hf
    · rw [State.channel_modChannel_self]
      exact Channel.formed_of_fields (ch := s.channel c) hf hs rfl rfl rfl rfl

/-- What follows a completed head are the unstarted entries behind it. -/
theorem completeHead_formed {s : State} {c : Fin 4} {rest : List Entry} (hw : waiting rest) (e : Entry) :
    ((s.completeHead c e rest).channel c).formed = true := by
  have hq : ((((s.entryDone c e).modChannel c fun ch => { ch with queue := rest }).releaseRef e.segment).channel c).queue =
      rest := by simp
  unfold State.completeHead
  simp only
  split
  · exact enterStopped_formed (by rw [hq]; exact hw)
  · obtain ⟨st, g, q', he, hst, hf⟩ := evaluateHead_channel
      (((s.entryDone c e).modChannel c fun ch => { ch with queue := rest }).releaseRef e.segment) c
    exact endAction_formed (by rw [he]; exact hst) (hf (by rw [hq]; exact hw)) _

/-- A started head that runs on. -/
theorem formed_runOn {ch : Channel} (hs : ch.headStarted = true) (h : ch.formed = true) {e e' : Entry} {rest : List Entry}
    (hq : ch.queue = e :: rest) (he : e'.started = e.started) (hg : e'.generator = e.generator) (n : Word) :
    ({ ch with counter := n, queue := e' :: rest } : Channel).formed = true := by
  have hst := Channel.headStarted_iff.mp hs
  obtain ⟨x, xs, hx, hx1, hw, ha⟩ := (Channel.formed_started hst).mp h
  obtain ⟨rfl, rfl⟩ := List.cons_eq_cons.mp (hq.symm.trans hx)
  refine (Channel.formed_started (ch := { ch with counter := n, queue := e' :: rest }) hst).mpr
    ⟨e', rest, rfl, he.trans hx1, hw, ?_⟩
  simpa [hq, generatorFor, hg] using ha

namespace Forms

theorem advance {s : State} {c : Fin 4} (hs : (s.channel c).headStarted = true) (n : Nat) : Forms s (s.advance c n) := by
  refine of_only (Only.advance ..) fun hf => ?_
  unfold State.advance
  split
  · next e rest hq =>
    have hw : waiting rest := by
      obtain ⟨x, xs, hx, -, hw, -⟩ := (Channel.formed_started (Channel.headStarted_iff.mp hs)).mp hf
      rw [(List.cons_eq_cons.mp (hq.symm.trans hx)).2]
      exact hw
    simp only
    split
    · unfold State.passEnd
      simp only
      split
      · exact completeHead_formed hw _
      · rw [State.channel_modChannel_self, State.channel_modChannel_self]
        exact formed_runOn (e' := { e with cursor := 0, passes := nextPasses e.repeats e.passes }) hs hf hq rfl rfl _
    · rw [State.channel_modChannel_self]
      exact formed_runOn (e' := { e with cursor := e.cursor + 1 }) hs hf hq rfl rfl _
  · exact hf

theorem emit {s : State} {d : Delivery} (h : (s.channel d.chan).state = .playing) : Forms s (s.emit d) := by
  unfold State.emit
  split
  · next e _ _ =>
    split
    · next seg _ =>
      have h1 : Forms s (s.modChannel d.chan fun ch =>
          { ch with output := readSample s.pool.mem seg.blocks e.cursor, emittedAt := s.emittedWith d }) := by
        refine modChannel fun hf => ?_
        exact Channel.formed_of_fields (ch := s.channel d.chan) hf (by simp [h]) rfl rfl rfl rfl
      obtain ⟨h2, h3⟩ := applyMarks (c := d.chan) (s := s.modChannel d.chan fun ch =>
          { ch with output := readSample s.pool.mem seg.blocks e.cursor, emittedAt := s.emittedWith d }) (by simp [h]) d.gen
          d.tick (seg.marks.filter fun m => m.position = e.cursor)
      exact h1.trans (h2.trans (advance (Channel.headStarted_iff.mpr (.inl h3)) _))
    · exact refl s
  · exact refl s

end Forms

/-- An unstarted entry lets no tick pass. -/
theorem letPass_waiting {ch : Channel} (h : waiting ch.queue) (g : Fin 4) : ch.letPass g = ch := by
  cases hq : ch.queue with
  | nil => simp [Channel.letPass, Channel.holds, hq]
  | cons e rest =>
    rw [hq] at h
    have : e.spent = 0 := by
      have := (waiting_cons.mp h).1
      simp only [Entry.waits, Bool.and_eq_true, decide_eq_true_eq] at this
      exact this.2
    simp [Channel.letPass, Channel.holds, hq, this]

@[simp] theorem Channel.letPass_state (g : Fin 4) (ch : Channel) : (ch.letPass g).state = ch.state := by
  unfold Channel.letPass; split <;> rfl

@[simp] theorem MarkerLine.endPulse_low (g : Fin 4) : MarkerLine.low.endPulse g = .low := by simp [MarkerLine.endPulse]

/-- The part of a delivery that every channel takes. -/
theorem formed_afterTick {ch : Channel} (h : ch.formed = true) (g : Fin 4) :
    ({ ch.letPass g with m0 := ch.m0.endPulse g, m1 := ch.m1.endPulse g } : Channel).formed = true := by
  have lines {x : Channel} (hx : x.formed = true) (hs : x.state ≠ .stopped) (a b : MarkerLine) :
      ({ x with m0 := a, m1 := b } : Channel).formed = true := by
    exact Channel.formed_of_fields (ch := x) hx hs rfl rfl rfl rfl
  cases hs : ch.state with
  | stopped =>
    obtain ⟨ho, h0, h1, ha, hw⟩ := (Channel.formed_stopped hs).mp h
    rw [letPass_waiting hw, h0, h1]
    exact (Channel.formed_stopped (ch := { ch with m0 := MarkerLine.low.endPulse g, m1 := MarkerLine.low.endPulse g }) hs).mpr
      ⟨ho, by simp, by simp, ha, hw⟩
  | waiting =>
    obtain ⟨_, _, -, -, hw, -⟩ := (Channel.formed_waiting hs).mp h
    rw [letPass_waiting hw]
    exact lines h (by simp [hs]) _ _
  | drained =>
    have hq := ((Channel.formed_drained hs).mp h).1
    rw [letPass_waiting (by rw [hq]; rfl)]
    exact lines h (by simp [hs]) _ _
  | playing | starved =>
    refine lines ?_ (by simp [hs]) _ _
    unfold Channel.letPass
    split
    · exact Channel.formed_setHead (f := fun e => { e with spent := e.spent - 1 }) (fun _ => rfl) (fun _ => rfl)
        (by simp [Channel.headStarted, hs]) h
    · exact h

namespace Forms

theorem takeTick (s : State) (d : Delivery) : Forms s (s.takeTick d) := by
  have h : Forms s (s.modChannel d.chan fun ch =>
      { ch.letPass d.gen with m0 := ch.m0.endPulse d.gen, m1 := ch.m1.endPulse d.gen }) :=
    modChannel fun hf => formed_afterTick hf d.gen
  rcases State.takeTick_cases s d with ⟨he, e⟩ | ⟨-, e⟩ <;> rw [e]
  · exact h.trans (emit (by simp [(Channel.playing_of_emitsAt he).1]))
  · exact h

/-- A STOPPED channel that starts. -/
theorem startChannel {c : Fin 4} {s : State} (h : (s.channel c).state = .stopped) : Forms s (State.startChannel c s) := by
  refine of_only (Only.startChannel ..) fun hf => evaluateHead_formed ?_
  obtain ⟨-, -, -, -, hw⟩ := (Channel.formed_stopped h).mp hf
  rw [State.channel_modChannel_self]
  exact hw

end Forms

/-- The entries that a STOP leaves are unstarted (R50). -/
theorem removeStarted_waiting {s : State} {c : Fin 4} (hf : (s.channel c).formed = true) :
    waiting ((s.removeStarted c).channel c).queue := by
  unfold State.removeStarted
  cases hs : (s.channel c).state with
  | stopped =>
    obtain ⟨-, -, -, -, hw⟩ := (Channel.formed_stopped hs).mp hf
    split
    · rw [if_neg (by simp [Channel.headStarted, hs])]; exact hw
    · exact hw
  | waiting =>
    obtain ⟨_, _, -, -, hw, -⟩ := (Channel.formed_waiting hs).mp hf
    split
    · rw [if_neg (by simp [Channel.headStarted, hs])]; exact hw
    · exact hw
  | drained =>
    have hq := ((Channel.formed_drained hs).mp hf).1
    rw [hq]
    simp [hq, waiting]
  | playing | starved =>
    obtain ⟨e, rest, hq, -, hw, -⟩ := (Channel.formed_started (by simp [hs])).mp hf
    rw [hq]
    simp only [Channel.headStarted, hs]
    simpa using hw

namespace Forms

theorem stopNow (c : Fin 4) (s : State) : Forms s (State.stopNow c s) := by
  refine of_only (Only.stopNow ..) fun hf => ?_
  unfold State.stopNow
  split
  · exact enterStopped_formed (removeStarted_waiting hf)
  · exact hf

theorem stopAtPassEnd (c : Fin 4) (s : State) : Forms s (State.stopAtPassEnd c s) := by
  unfold State.stopAtPassEnd
  split
  · next hs =>
    exact modChannel (Channel.formed_setHead (fun _ => rfl) (fun _ => rfl) (Channel.headStarted_iff.mpr (.inl hs)))
  · exact stopNow c s

theorem stopPlanChannels (s : State) : Forms s s.stopPlanChannels := forEach stopNow _ s

theorem flush (s : State) (c : Fin 4) : Forms s (s.flush c) := by
  refine of_only (Only.flush ..) fun hf => ?_
  unfold State.flush
  simp only
  split
  · next hs => exact evaluateHead_formed (by simp [Channel.kept, Channel.headStarted, hs, waiting])
  · next hs =>
    rw [channel_releaseAll, State.channel_modChannel_self]
    rcases (s.channel c).state.all with h | h | h | h
    · obtain ⟨ho, h0, h1, ha, -⟩ := (Channel.formed_stopped h).mp hf
      exact (Channel.formed_stopped (ch := { s.channel c with queue := (s.channel c).kept }) h).mpr
        ⟨ho, h0, h1, ha, by simp [Channel.kept, Channel.headStarted, h, waiting]⟩
    · exact absurd h hs
    · exact (Channel.formed_drained (ch := { s.channel c with queue := (s.channel c).kept }) h).mpr
        ⟨by simp [Channel.kept, Channel.headStarted, h], ((Channel.formed_drained h).mp hf).2⟩
    · obtain ⟨e, rest, hq, he, -, ha⟩ := (Channel.formed_started h).mp hf
      have hk : (s.channel c).kept = [e] := by simp [Channel.kept, Channel.headStarted_iff.mpr h, hq]
      refine (Channel.formed_started (ch := { s.channel c with queue := (s.channel c).kept }) h).mpr
        ⟨e, [], hk, he, rfl, ?_⟩
      simpa [hk, hq, generatorFor] using ha

/-- An unstarted entry joins a queue (R48). -/
theorem appendEntry {s : State} {c : Fin 4} {e : Entry} (he : e.waits = true) : Forms s (s.appendEntry c e) := by
  have happ {q : List Entry} (h : waiting q) : waiting (q ++ [e]) := by
    simp only [waiting, List.all_append, Bool.and_eq_true] at h ⊢
    exact ⟨h, by simp [he]⟩
  have hgen {q : List Entry} {x : Entry} {rest : List Entry} (g : Fin 4) (hq : q = x :: rest) :
      generatorFor g (q ++ [e]) = generatorFor g q := by subst hq; rfl
  have honly : Only c s ((s.modChannel c fun ch => { ch with queue := ch.queue ++ [e] }).takeRef e.segment) :=
    (Only.modChannel s c fun ch => { ch with queue := ch.queue ++ [e] }).trans ⟨fun _ _ => rfl⟩
  have hch : ((s.modChannel c fun ch => { ch with queue := ch.queue ++ [e] }).takeRef e.segment).channel c =
      { s.channel c with queue := (s.channel c).queue ++ [e] } :=
    State.channel_modChannel_self s c fun ch => { ch with queue := ch.queue ++ [e] }
  unfold State.appendEntry
  simp only
  split
  · next hs =>
    refine of_only (honly.trans (Only.evaluateHead ..)) fun hf => evaluateHead_formed ?_
    rw [hch, ((Channel.formed_drained hs).mp hf).1]
    exact happ rfl
  · next hs =>
    refine of_only honly fun hf => ?_
    rw [hch]
    rcases (s.channel c).state.all with h | h | h | h
    · obtain ⟨ho, h0, h1, ha, hw⟩ := (Channel.formed_stopped h).mp hf
      exact (Channel.formed_stopped (ch := { s.channel c with queue := (s.channel c).queue ++ [e] }) h).mpr
        ⟨ho, h0, h1, ha, happ hw⟩
    · obtain ⟨x, rest, hq, hx, hw, ha⟩ := (Channel.formed_waiting h).mp hf
      exact (Channel.formed_waiting (ch := { s.channel c with queue := (s.channel c).queue ++ [e] }) h).mpr
        ⟨x, rest ++ [e], by simp [hq], hx, happ hw, by simp only [hgen _ hq, ha]⟩
    · exact absurd h hs
    · obtain ⟨x, rest, hq, hx, hw, ha⟩ := (Channel.formed_started h).mp hf
      exact (Channel.formed_started (ch := { s.channel c with queue := (s.channel c).queue ++ [e] }) h).mpr
        ⟨x, rest ++ [e], by simp [hq], hx, happ hw, by simp only [hgen _ hq, ha]⟩

end Forms

end Sys2Proof.Machine

/-! ## The job list and the Request Table: their capacities and arrangement (R103, R112, R123, R160, R166) -/

namespace Sys2Proof.Machine

/-! ### The job list -/

/-- The job list holds 4 jobs at most and stands as R103 and R123 give it. -/
structure State.jobsStand (s : State) : Prop where
  few : s.jobs.length ≤ Config.maxJobs
  apart : s.jobs.Pairwise (fun j k => j.apart k = true)
  active : s.jobs.countP Job.isActive ≤ 1
  suspended : s.jobs.countP Job.isSuspended ≤ 1
  fit : ∀ j ∈ s.jobs, j.fit = true
  writes : ∀ j ∈ s.jobs, s.writesOpen j = true

theorem jobsStand_iff (s : State) : s.jobsStand ↔ s.jobs.length ≤ Config.maxJobs ∧ s.jobsFit = true := by
  simp only [State.jobsFit, Bool.and_eq_true, decide_eq_true_eq, List.all_eq_true]
  constructor
  · intro h
    exact ⟨h.few, ⟨⟨⟨h.apart, h.active⟩, h.suspended⟩, h.fit⟩, h.writes⟩
  · rintro ⟨h1, ⟨⟨⟨h2, h3⟩, h4⟩, h5⟩, h6⟩
    exact ⟨h1, h2, h3, h4, h5, h6⟩

theorem State.writesOpen_congr {s t : State} {j k : Job} (hw : k.work = j.work) (hs : ∀ n, (t.slot n).effective = (s.slot n).effective) :
    t.writesOpen k = s.writesOpen j := by
  simp [State.writesOpen, hw, hs]

section Lists

variable {α : Type} {p q : α → Bool} {f : α → α}

/-- A change of one element that fails a test after it. -/
theorem countP_modifyFirst_le (h : ∀ x, q (f x) = false) (xs : List α) : (modifyFirst p f xs).countP q ≤ xs.countP q := by
  induction xs with
  | nil => simp [modifyFirst]
  | cons x xs ih =>
    unfold modifyFirst
    split
    · simp [List.countP_cons, h]
    · simpa [List.countP_cons] using ih

theorem countP_modifyFirst_le_succ (f : α → α) (xs : List α) : (modifyFirst p f xs).countP q ≤ xs.countP q + 1 := by
  induction xs with
  | nil => simp [modifyFirst]
  | cons x xs ih =>
    unfold modifyFirst
    split
    · simp only [List.countP_cons]; split <;> split <;> omega
    · simp only [List.countP_cons]; omega

/-- The changed element leaves the count of those that pass. -/
theorem countP_modifyFirst_lt (h : ∀ x, q (f x) = false) (hpq : ∀ x, p x = true → q x = true) {xs : List α}
    (hx : xs.any p = true) : (modifyFirst p f xs).countP q + 1 = xs.countP q := by
  induction xs with
  | nil => simp at hx
  | cons x xs ih =>
    unfold modifyFirst
    cases hp : p x with
    | true => simp [h, hpq x hp]
    | false =>
      have := ih (by simpa [hp] using hx)
      simp only [List.countP_cons, Bool.false_eq_true, if_false]
      omega

theorem countP_eq_zero_of_any {xs : List α} (h : xs.any p = false) : xs.countP p = 0 := by
  rw [List.countP_eq_zero]
  simpa using h

end Lists

theorem Pairwise.of_map_work {R : Work → Work → Prop} {js ks : List Job} (h : js.Pairwise (fun j k => R j.work k.work))
    (e : ks.map (·.work) = js.map (·.work)) : ks.Pairwise (fun j k => R j.work k.work) := by
  rw [← List.pairwise_map] at h ⊢
  rwa [e]

/-- The works of two jobs that are apart. -/
def Work.apart (v w : Work) : Prop := ((v.slot?.isNone || decide (v.slot? ≠ w.slot?)) && !(v.isPlan && w.isPlan)) = true

theorem namingJobs_congr {js ks : List Job} (e : ks.map (·.work) = js.map (·.work)) : namingJobs ks = namingJobs js := by
  funext id
  have h (l : List Job) : namingJobs l id = (l.map (·.work)).countP (fun w => w.segment? = some id) := by
    simp [namingJobs, List.countP_map, Function.comp_def]
  rw [h, h, e]

theorem exists_job_of_work {js ks : List Job} (e : ks.map (·.work) = js.map (·.work)) {k : Job} (h : k ∈ ks) :
    ∃ j ∈ js, j.work = k.work := by
  have : k.work ∈ js.map (·.work) := e ▸ List.mem_map_of_mem h
  simpa using this

namespace State.jobsStand

variable {s t : State}

/-- The list with the same works, where the counts and the suspensions hold. -/
theorem of_works (h : s.jobsStand) (e : t.jobs.map (·.work) = s.jobs.map (·.work))
    (hs : ∀ n, (t.slot n).effective = (s.slot n).effective) (ha : t.jobs.countP Job.isActive ≤ 1)
    (hu : t.jobs.countP Job.isSuspended ≤ 1) (hf : ∀ j ∈ t.jobs, j.fit = true) : t.jobsStand := by
  refine ⟨?_, Pairwise.of_map_work (R := Work.apart) h.apart e, ha, hu, hf, fun k hk => ?_⟩
  · have : t.jobs.length = s.jobs.length := by simpa using congrArg List.length e
    exact this ▸ h.few
  · obtain ⟨j, hj, hw⟩ := exists_job_of_work e hk
    rw [State.writesOpen_congr hw.symm hs]
    exact h.writes j hj

theorem congr (h : s.jobsStand) (hj : t.jobs = s.jobs) (hs : ∀ n, (t.slot n).effective = (s.slot n).effective) : t.jobsStand :=
  h.of_works (by rw [hj]) hs (hj ▸ h.active) (hj ▸ h.suspended) (hj ▸ h.fit)

/-- Some jobs leave the list. -/
theorem sublist (h : s.jobsStand) (hj : t.jobs.Sublist s.jobs) (hw : ∀ j ∈ t.jobs, t.writesOpen j = true) : t.jobsStand :=
  ⟨hj.length_le.trans h.few, h.apart.sublist hj, (hj.countP_le).trans h.active, (hj.countP_le).trans h.suspended,
    fun j m => h.fit j (hj.subset m), hw⟩

/-- A job goes to the tail. -/
theorem append (h : s.jobsStand) {j : Job} (hl : s.jobs.length < Config.maxJobs) (hq : j.state = .queued)
    (ha : ∀ k ∈ s.jobs, k.apart j = true) (hw : s.writesOpen j = true) : State.jobsStand { s with jobs := s.jobs ++ [j] } := by
  have h1 : j.isActive = false := by simp [Job.isActive, hq]
  have h2 : j.isSuspended = false := by simp [Job.isSuspended, hq]
  refine ⟨by simpa using hl, ?_, by simpa [h1] using h.active, by simpa [h2] using h.suspended, fun k hk => ?_, fun k hk => ?_⟩
  · refine List.pairwise_append.mpr ⟨h.apart, List.pairwise_singleton .., fun k hk x hx => ?_⟩
    rw [List.mem_singleton.mp hx]
    exact ha k hk
  · rcases List.mem_append.mp hk with hk | hk
    · exact h.fit k hk
    · rw [List.mem_singleton.mp hk]; simp [Job.fit, h2]
  · rcases List.mem_append.mp hk with hk | hk
    · exact h.writes k hk
    · rw [List.mem_singleton.mp hk]; exact hw

end State.jobsStand

/-! ### Announcement and selection -/

/-- An announcement changes an operation field of the store and nothing else. -/
theorem announce_frame (s : State) (w : Work) : s.announce w = { s with store := (s.announce w).store } ∧
    ∀ n, ((s.announce w).slot n) = { s.slot n with operation := ((s.announce w).slot n).operation } := by
  have hset (m : Fin 32) (o : SlotOp) (n : Fin 32) : (s.setSlot m { s.slot m with operation := o }).slot n =
      { s.slot n with operation := ((s.setSlot m { s.slot m with operation := o }).slot n).operation } := by
    by_cases h : n = m
    · subst h; simp
    · simp [State.slot_setSlot_other s h]
  cases w with
  | save | erase => exact ⟨rfl, hset _ _⟩
  | load | setLock | savePlan | clearPlan => exact ⟨rfl, fun _ => rfl⟩

theorem announceFor_frame (s : State) (j : Job) : s.announceFor j = { s with store := (s.announceFor j).store } ∧
    ∀ n, ((s.announceFor j).slot n) = { s.slot n with operation := ((s.announceFor j).slot n).operation } := by
  unfold State.announceFor
  split
  · exact announce_frame s j.work
  · exact ⟨rfl, fun _ => rfl⟩

/-- What a selection does: nothing, or the oldest job that passes the test becomes ACTIVE, where none was. -/
theorem select_cases (s : State) : s.select = s ∨ (∃ j, s.jobs.any Job.isActive = false ∧ s.jobs.find? (picks s.jobs) = some j ∧
    s.select = { s.announceFor j with jobs := modifyFirst (picks s.jobs) Job.activated s.jobs }) := by
  unfold State.select
  split
  · exact .inl rfl
  · next ha =>
    split
    · next j hj => exact .inr ⟨j, by simpa using ha, hj, rfl⟩
    · exact .inl rfl

theorem Job.isSuspended_activated (j : Job) : j.activated.isSuspended = false := rfl

/-- A selection keeps the works of the list and the lock levels, and changes the list and announcements alone. -/
theorem select_frame (s : State) : s.select = { s with jobs := s.select.jobs, store := s.select.store } ∧
    s.select.jobs.map (·.work) = s.jobs.map (·.work) ∧
    ∀ n, s.select.slot n = { s.slot n with operation := (s.select.slot n).operation } := by
  rcases select_cases s with e | ⟨j, -, -, e⟩
  · rw [e]; exact ⟨rfl, rfl, fun _ => rfl⟩
  · obtain ⟨h1, h2⟩ := announceFor_frame s j
    refine ⟨?_, ?_, fun n => ?_⟩
    · rw [e, h1]
    · rw [e]; exact modifyFirst_map (·.work) (f := Job.activated) (fun _ => rfl) s.jobs
    · have : s.select.slot n = (s.announceFor j).slot n := by rw [e]; rfl
      rw [this]; exact h2 n

theorem State.jobsStand.select {s : State} (h : s.jobsStand) : s.select.jobsStand := by
  obtain ⟨-, hw, hs⟩ := select_frame s
  have heff (n : Fin 32) : (s.select.slot n).effective = (s.slot n).effective := by rw [hs n]; rfl
  rcases select_cases s with e | ⟨j, ha, -, e⟩
  · rwa [e]
  · have hj : s.select.jobs = modifyFirst (picks s.jobs) Job.activated s.jobs := by rw [e]
    refine h.of_works hw heff ?_ ?_ fun k hk => ?_
    · rw [hj]
      have := countP_modifyFirst_le_succ (p := picks s.jobs) (q := Job.isActive) Job.activated s.jobs
      rw [countP_eq_zero_of_any ha] at this
      exact this
    · rw [hj]
      exact (countP_modifyFirst_le Job.isSuspended_activated s.jobs).trans h.suspended
    · rw [hj] at hk
      rcases mem_modifyFirst hk with hk | ⟨x, -, -, rfl⟩
      · exact h.fit k hk
      · simp [Job.fit, Job.isSuspended_activated]

/-! ### Acceptance -/

theorem State.jobsStand.accept {s : State} (h : s.jobsStand) {w : Work} (o : JobOrigin) (b : Nat)
    (hl : s.jobs.length < Config.maxJobs) (ha : ∀ k ∈ s.jobs, k.work.apart w) (hw : s.writesOpen (newJob w o b) = true) :
    (s.accept w o b).jobsStand :=
  (h.append (j := newJob w o b) hl rfl ha hw).select

/-- An erase that is suspended was the ACTIVE job, suspended fewer than 8 times. -/
theorem Job.suspendable_iff {n : Fin 32} {j : Job} : j.suspendable n = true ↔
    ∃ m, j.work = .erase m ∧ j.isActive = true ∧ m ≠ n ∧ j.suspensions < Config.maxSuspensions := by
  unfold Job.suspendable
  cases hw : j.work <;> simp [and_assoc]

theorem State.jobsStand.acceptLoad {s : State} (h : s.jobsStand) (n : Fin 32) (id : Byte) (o : JobOrigin) (b : Nat)
    (hl : s.jobs.length < Config.maxJobs) (hb : s.slotBusy n = false) : (s.acceptLoad n id o b).jobsStand := by
  have hapart (k : Job) (hk : k ∈ s.jobs) : k.work.apart (.load n id) := by
    have hne : k.work.slot? ≠ some n :=
      (by simpa [State.slotBusy, jobNaming] using hb : ∀ x ∈ s.jobs, ¬x.work.slot? = some n) k hk
    have hslot : (Work.load n id).slot? = some n := rfl
    have hplan : (Work.load n id).isPlan = false := rfl
    simp [Work.apart, hslot, hplan, hne]
  unfold State.acceptLoad
  split
  · next hsus =>
    simp only [suspends, Bool.and_eq_true, Bool.not_eq_true'] at hsus
    obtain ⟨hany, hnone⟩ := hsus
    have hact : (modifyFirst (Job.suspendable n) Job.suspend s.jobs).countP Job.isActive = 0 := by
      have := countP_modifyFirst_lt (p := Job.suspendable n) (q := Job.isActive) (f := Job.suspend) (fun _ => rfl)
        (fun x hx => (Job.suspendable_iff.mp hx).choose_spec.2.1) hany
      have := h.active
      omega
    have hmid : State.jobsStand { s with jobs := modifyFirst (Job.suspendable n) Job.suspend s.jobs } := by
      refine h.of_works (modifyFirst_map (·.work) (f := Job.suspend) (fun _ => rfl) s.jobs) (fun _ => rfl) (by simp [hact]) ?_
        fun k hk => ?_
      · have := countP_modifyFirst_le_succ (p := Job.suspendable n) (q := Job.isSuspended) Job.suspend s.jobs
        rw [countP_eq_zero_of_any hnone] at this
        exact this
      · rcases mem_modifyFirst hk with hk | ⟨x, -, hx, rfl⟩
        · exact h.fit k hk
        · obtain ⟨m, hm, -, -, hlt⟩ := Job.suspendable_iff.mp hx
          have hlt' : x.suspensions + 1 ≤ Config.maxSuspensions := hlt
          simp [Job.fit, Job.suspend, hm, hlt']
    refine ⟨by simpa using hl, ?_, by simp [hact, List.countP_cons]; split <;> omega, ?_, fun k hk => ?_, fun k hk => ?_⟩
    · refine List.pairwise_append.mpr ⟨hmid.apart, List.pairwise_singleton .., fun k hk x hx => ?_⟩
      rw [List.mem_singleton.mp hx]
      obtain ⟨j, hj, hw⟩ := exists_job_of_work (modifyFirst_map (·.work) (f := Job.suspend) (fun _ => rfl) s.jobs) hk
      have := hapart j hj
      rw [hw] at this
      exact this
    · simpa [List.countP_append, Job.isSuspended, Job.activated] using hmid.suspended
    · rcases List.mem_append.mp hk with hk | hk
      · exact hmid.fit k hk
      · rw [List.mem_singleton.mp hk]; rfl
    · rcases List.mem_append.mp hk with hk | hk
      · exact hmid.writes k hk
      · rw [List.mem_singleton.mp hk]; rfl
  · exact h.accept o b hl hapart rfl

/-! ### The Request Table and the transmitter -/

/-- The Request Table holds 8 entries and 4 refusal records at most, and the tags of its non-orphaned entries are distinct. -/
structure State.frontStands (s : State) : Prop where
  few : s.table.entries.length ≤ Config.maxEntries
  refusals : s.refusalsUsed ≤ Config.maxRefusals
  tags : s.tagsDistinct = true

/-- Two entries that may stand together in the table: one is orphaned or the tags differ. -/
def Pending.apart (e f : Pending) : Prop := e.orphaned = true ∨ f.orphaned = true ∨ e.tag ≠ f.tag

theorem tagsDistinct_iff (s : State) : s.tagsDistinct = true ↔ s.table.entries.Pairwise Pending.apart := by
  rw [State.tagsDistinct, decide_eq_true_eq]
  rfl

namespace State.frontStands

variable {s t : State}

theorem congr (h : s.frontStands) (ht : t.table = s.table) (hx : t.link.tx = s.link.tx) : t.frontStands :=
  ⟨ht ▸ h.few, by simpa [State.refusalsUsed, ht, hx] using h.refusals, by simpa [State.tagsDistinct, ht] using h.tags⟩

/-- Entries change in their state alone. -/
theorem of_entries (h : s.frontStands)
    (he : t.table.entries.map (fun e => (e.tag, e.orphaned)) = s.table.entries.map (fun e => (e.tag, e.orphaned)))
    (hr : t.refusalsUsed ≤ s.refusalsUsed) : t.frontStands := by
  refine ⟨?_, hr.trans h.refusals, ?_⟩
  · have : t.table.entries.length = s.table.entries.length := by simpa using congrArg List.length he
    exact this ▸ h.few
  · have hs := (tagsDistinct_iff s).mp h.tags
    refine (tagsDistinct_iff t).mpr ?_
    have e (l : List Pending) : l.Pairwise Pending.apart ↔ (l.map (fun e => (e.tag, e.orphaned))).Pairwise
        (fun a b => a.2 = true ∨ b.2 = true ∨ a.1 ≠ b.1) := by rw [List.pairwise_map]; rfl
    rw [e] at hs ⊢
    rwa [he]

theorem refuse (h : s.frontStands) (tag code : Byte) (st : Status) : (s.refuse tag code st).frontStands := by
  rcases refuse_cases s tag code st with ⟨hr, e⟩ | ⟨-, e⟩ <;> rw [e]
  · refine ⟨h.few, ?_, h.tags⟩
    have : s.table.line.countP LineItem.isRefusal + 1 + s.link.tx.refusals ≤ Config.maxRefusals := by
      unfold State.refusalsUsed at hr; omega
    simpa [State.refusalsUsed, LineItem.isRefusal] using this
  · exact h.congr rfl rfl

theorem openEntry (h : s.frontStands) {tag : Byte} (code : Byte) (hn : s.table.entries.any (Pending.holds tag) = false)
    (hl : s.table.entries.length < Config.maxEntries) : (s.openEntry tag code).frontStands := by
  refine ⟨by simpa [State.openEntry] using hl, h.refusals, ?_⟩
  refine (tagsDistinct_iff _).mpr (List.pairwise_append.mpr ⟨(tagsDistinct_iff s).mp h.tags, List.pairwise_singleton .., ?_⟩)
  intro e he f hf
  rw [List.mem_singleton.mp hf]
  have : e.holds tag = false := by simpa using List.any_eq_false.mp hn e he
  simp only [Pending.holds, Bool.and_eq_false_iff, decide_eq_false_iff_not, Bool.not_eq_false'] at this
  rcases this with h1 | h1
  · exact .inr (.inr h1)
  · exact .inl h1

theorem placeReply (h : s.frontStands) (tag code : Byte) (st : Status) (data : List Byte) :
    (s.placeReply tag code st data).frontStands :=
  h.of_entries (modifyFirst_map (fun e : Pending => (e.tag, e.orphaned)) (f := fun e => { e with state := .queued }) (fun _ => rfl) _)
    (by simp [State.placeReply, State.refusalsUsed, List.countP_append, LineItem.isRefusal])

/-- Entries leave the table. -/
theorem sublist (h : s.frontStands) (he : t.table.entries.Sublist s.table.entries) (hr : t.refusalsUsed ≤ s.refusalsUsed) :
    t.frontStands :=
  ⟨he.length_le.trans h.few, hr.trans h.refusals, (tagsDistinct_iff t).mpr (((tagsDistinct_iff s).mp h.tags).sublist he)⟩

theorem handReply (h : s.frontStands) (o : JobOrigin) (code : Byte) (st : Status) (data : List Byte) :
    (s.handReply o code st data).frontStands := by
  match o with
  | .request tag false => exact h.placeReply tag code st data
  | .request tag true => exact h.sublist List.eraseP_sublist (le_refl _)
  | .plan => exact h

theorem beginReply (h : s.frontStands) {item : LineItem} {rest : List LineItem} (hx : s.link.tx = .free)
    (hl : s.table.line = item :: rest) : (s.beginReply item rest).frontStands := by
  cases item with
  | reply tag code st data =>
    refine h.of_entries (modifyFirst_map (fun e : Pending => (e.tag, e.orphaned)) (f := fun e => { e with state := .sending })
      (fun _ => rfl) _) ?_
    simp [State.beginReply, State.refusalsUsed, hx, hl, LineItem.isRefusal, Transmitter.refusals]
  | refusal tag code st =>
    refine h.of_entries rfl ?_
    simp [State.beginReply, State.refusalsUsed, hx, hl, LineItem.isRefusal, Transmitter.refusals, List.countP_cons]

theorem arbitrate (h : s.frontStands) : s.arbitrate.frontStands := by
  rcases arbitrate_cases s with ⟨-, e⟩ | ⟨item, rest, hx, hl, e⟩ | ⟨r, hx, -, -, e⟩ | ⟨-, -, -, e⟩ <;> rw [e]
  · exact h
  · exact h.beginReply hx hl
  · unfold State.beginNotice
    split
    · exact h.of_entries rfl (by simp [State.refusalsUsed, hx, Transmitter.refusals])
    · exact h.of_entries rfl (by simp [State.refusalsUsed, hx, Transmitter.refusals])
    · exact h
  · exact h

end State.frontStands

/-- After the arbiter's choice the transmitter is busy or nothing waits for it (R154). -/
theorem arbitrate_settled (s : State) : s.arbitrate.settled = true := by
  rcases arbitrate_cases s with ⟨hx, e⟩ | ⟨item, rest, hx, hl, e⟩ | ⟨r, hx, hl, ho, e⟩ | ⟨hx, hl, ho, e⟩ <;> rw [e]
  · unfold State.settled
    split
    · next h => exact absurd h hx
    · rfl
  · rfl
  · have hnot : ∀ n, r.state ≠ .sent n := by
      intro n hn
      have h1 : r.isResend = false ∧ r.isNew = false := by simp [Notice.isResend, Notice.isNew, hn]
      obtain ⟨-, hr | ⟨-, -, hr⟩⟩ := Notices.offer_cases ho
      · have := List.find?_some hr; simp [h1.1] at this
      · have := List.find?_some hr; simp [h1.2] at this
    unfold State.beginNotice
    split
    · rfl
    · rfl
    · next h => exact absurd h (hnot _)
  · simp [State.settled, hx, hl, ho]

end Sys2Proof.Machine

/-! ## What every command keeps: one implication for each part of a sound state -/

namespace Sys2Proof.Machine

-- The proofs are checked one after another, so that their memory is not asked for at once.
set_option Elab.async false

/-- From `s` to `t` every part of a sound state is kept, each by itself, but for the transmitter's part (`State.settled`), which the
arbiter's choice restores at the end of an event. The references outside the queues are `k` before and `l` after. -/
structure KeepsFor (k l : Byte → Nat) (s t : State) : Prop where
  pending : t.pending = s.pending := by rfl
  memory : Memory.wf s.pool.mem = true → Memory.wf t.pool.mem = true := by exact fun h => h
  whole : s.pool.partitioned → t.pool.partitioned := by exact fun h => h
  rising : s.pool.rising → t.pool.rising := by exact fun h => h
  fewer : s.pool.map.length ≤ Config.mapRecords → t.pool.map.length ≤ Config.mapRecords := by exact fun h => h
  shaped : s.shaped = true → t.shaped = true := by exact fun h => h
  refs : s.accounts k → t.accounts l := by exact fun h => h.congr rfl rfl
  formed : Forms s t := by exact fun h => h
  queues : (∀ c, (s.channel c).queue.length ≤ Config.queueDepth) → ∀ c, (t.channel c).queue.length ≤ Config.queueDepth := by
    exact fun h => h
  jobs : s.jobsStand → t.jobsStand := by exact fun h => h.congr rfl fun _ => rfl
  front : s.frontStands → t.frontStands := by exact fun h => h.congr rfl rfl
  notices : s.notices.Takes t.notices := by exact Notices.Takes.refl _

/-- Every part of a sound state is kept, with the references that the jobs hold. -/
abbrev Keeps (s t : State) : Prop := KeepsFor (namingJobs s.jobs) (namingJobs t.jobs) s t

variable {k l m : Byte → Nat} {s t u : State}

theorem KeepsFor.trans (h : KeepsFor k l s t) (h' : KeepsFor l m t u) : KeepsFor k m s u where
  pending := h'.pending.trans h.pending
  memory := h'.memory ∘ h.memory
  whole := h'.whole ∘ h.whole
  rising := h'.rising ∘ h.rising
  fewer := h'.fewer ∘ h.fewer
  shaped := h'.shaped ∘ h.shaped
  refs := h'.refs ∘ h.refs
  formed := h.formed.trans h'.formed
  queues := h'.queues ∘ h.queues
  jobs := h'.jobs ∘ h.jobs
  front := h'.front ∘ h.front
  notices := h.notices.trans h'.notices

namespace Keeps

theorem refl (s : State) : Keeps s s := {}

theorem forEach {α : Type} {f : α → State → State} (h : ∀ x s, Keeps s (f x s)) (xs : List α) (s : State) :
    Keeps s (Machine.forEach f xs s) := by
  induction xs generalizing s with
  | nil => exact refl s
  | cons x xs ih => exact (h x s).trans (ih (f x s))

/-! ### The players -/

theorem shaped_of_sheds (hp : s.pool.Sheds t.pool) (hs : t.store = s.store) (h : s.shaped = true) : t.shaped = true := by
  simp only [State.shaped, Bool.and_eq_true] at h ⊢
  exact ⟨hp.shaped h.1, by rw [hs]; exact h.2⟩

end Keeps

namespace KeepsFor

/-- What the operations of the players touch leaves every part that they do not touch as it is. -/
theorem of_tends (h : Tends s t) (hr : s.accounts k → t.accounts l) (hf : Forms s t)
    (hq : (∀ c, (s.channel c).queue.length ≤ Config.queueDepth) → ∀ c, (t.channel c).queue.length ≤ Config.queueDepth) :
    KeepsFor k l s t := by
  have hjobs : t.jobs = s.jobs := by rw [h.frame]
  have hstore : t.store = s.store := by rw [h.frame]
  exact
    { pending := by rw [h.frame]
      memory := by rw [h.frame]; exact id
      whole := h.pool.whole
      rising := h.pool.rising
      fewer := h.pool.fewer.trans
      shaped := Keeps.shaped_of_sheds h.pool hstore
      refs := hr
      formed := hf
      queues := hq
      jobs := fun hj => hj.congr hjobs fun n => by simp [State.slot, hstore]
      front := fun hj => hj.congr (by rw [h.frame]) (by rw [h.frame])
      notices := h.notices }

theorem of_plays (h : Plays s t) (hf : Forms s t) : KeepsFor k k s t := of_tends h.toTends (h.refs _) hf (h.queues _)

theorem of_channels (h : Tends s t) (hc : t.channels = s.channels) (hr : s.accounts k → t.accounts l) : KeepsFor k l s t :=
  of_tends h hr (Forms.congr hc) fun hn c => by simpa [State.channel, hc] using hn c

theorem releaseRef (s : State) (id : Byte) : KeepsFor (oneMore k id) k s (s.releaseRef id) :=
  of_channels (Tends.releaseRef s id) (releaseRef_frame s id).1 fun h => h.releaseRef

theorem modSegment {id : Byte} {f : Segment → Segment} (hid : ∀ g, (f g).id = g.id) (hb : ∀ g, (f g).blocks = g.blocks)
    (hs : ∀ g, s.segment? id = some g → g.shaped = true → (f g).shaped = true)
    (hr : s.accounts k → (s.modSegment id f).accounts l) : KeepsFor k l s (s.modSegment id f) :=
  of_channels (Tends.modSegment hid hb hs) rfl hr

theorem freeSegment {g x : Segment} (b : Bool) (hx : s.segment? g.id = some x) (hb : x.blocks = g.blocks)
    (hr : s.accounts k → (s.freeSegment g b).accounts l) : KeepsFor k l s (s.freeSegment g b) :=
  of_channels (Tends.freeSegment b hx hb) (freeSegment_frame s g b).1 hr

end KeepsFor

namespace Keeps

/-- Where the job list stays, the references outside the queues do. -/
theorem of_same_jobs (h : KeepsFor (namingJobs s.jobs) (namingJobs s.jobs) s t) (hj : t.jobs = s.jobs) : Keeps s t := by
  unfold Keeps
  rw [hj]
  exact h

theorem of_plays (h : Plays s t) (hf : Forms s t) : Keeps s t :=
  of_same_jobs (KeepsFor.of_plays h hf) (by rw [h.frame])

theorem notify (s : State) (k : NoticeKind) (src : Source) (d : List Byte) : Keeps s (s.notify k src d) :=
  { notices := Notices.takes_produce .. }

theorem readyReport (id : Byte) (c : Fin 4) (s : State) : Keeps s (State.readyReport id c s) :=
  of_plays (Plays.readyReport id c s) (Forms.readyReport id c s)

theorem takeTick (s : State) (d : Delivery) : Keeps s (s.takeTick d) := of_plays (Plays.takeTick s d) (Forms.takeTick s d)

theorem fireTrigger (k : Fin 8) (ctx : TickContext) (s : State) : Keeps s (State.fireTrigger k ctx s) :=
  of_plays (Plays.fireTrigger k ctx s) (Forms.fireTrigger k ctx s)

theorem reportReady (s : State) (id : Byte) : Keeps s (s.reportReady id) :=
  of_plays (Plays.reportReady s id) (Forms.reportReady s id)

theorem reportFailed (s : State) (id : Byte) : Keeps s (s.reportFailed id) :=
  of_plays (Plays.reportFailed s id) (Forms.reportFailed s id)

theorem stopNow (c : Fin 4) (s : State) : Keeps s (State.stopNow c s) := of_plays (Plays.stopNow c s) (Forms.stopNow c s)

theorem stopAtPassEnd (c : Fin 4) (s : State) : Keeps s (State.stopAtPassEnd c s) :=
  of_plays (Plays.stopAtPassEnd c s) (Forms.stopAtPassEnd c s)

theorem stopPlanChannels (s : State) : Keeps s s.stopPlanChannels :=
  of_plays (Plays.stopPlanChannels s) (Forms.stopPlanChannels s)

theorem flush (s : State) (c : Fin 4) : Keeps s (s.flush c) := of_plays (Plays.flush s c) (Forms.flush s c)

theorem startChannel {c : Fin 4} (h : (s.channel c).state = .stopped) : Keeps s (State.startChannel c s) :=
  of_plays (Plays.startChannel c s) (Forms.startChannel h)

/-- Channels that stand STOPPED start one after another. -/
theorem startChannels {xs : List (Fin 4)} (hx : xs.Nodup) (h : ∀ c ∈ xs, (s.channel c).state = .stopped) :
    Keeps s (Machine.forEach State.startChannel xs s) := by
  induction xs generalizing s with
  | nil => exact refl s
  | cons c cs ih =>
    obtain ⟨hc, hcs⟩ := List.nodup_cons.mp hx
    refine (startChannel (h c (by simp))).trans (ih hcs fun d hd => ?_)
    rw [(Only.startChannel c s).other d fun e => hc (e ▸ hd)]
    exact h d (by simp [hd])

/-! ### The generators, the Trigger Unit and the controller's own fields -/

theorem modGenerator (s : State) (g : Fin 4) (f : Generator → Generator) : Keeps s (s.modGenerator g f) := {}

theorem modStartup (s : State) (f : Startup → Startup) : Keeps s (s.modStartup f) := {}

theorem setTrigger (s : State) (k : Fin 8) (x : Trigger) : Keeps s (s.setTrigger k x) := {}

theorem setTrig (s : State) (u : TriggerUnit) : Keeps s { s with trig := u } := {}

theorem setDeliveries (s : State) (ds : List Delivery) : Keeps s { s with deliveries := ds } := {}

theorem makeTick (s : State) (m : TickMade) : Keeps s (s.makeTick m) := by
  unfold State.makeTick
  simp only
  split
  · exact (modGenerator ..).trans (setDeliveries ..)
  · exact refl s

theorem deliver (s : State) (c g : Fin 4) : Keeps s (s.deliver c g) := by
  unfold State.deliver
  split
  · exact (setDeliveries ..).trans (takeTick ..)
  · exact refl s

theorem examineTrigger (r f n : Byte) (k : Fin 8) (s : State) : Keeps s (State.examineTrigger r f n k s) := by
  unfold State.examineTrigger
  simp only
  split
  · exact (setTrigger ..).trans (fireTrigger ..)
  · exact setTrigger ..

theorem takeSample (s : State) (levels : Byte) (order : List (Fin 8)) : Keeps s (s.takeSample levels order) := by
  unfold State.takeSample
  split
  · exact (setTrig ..).trans (forEach (examineTrigger _ _ _) _ _)
  · exact setTrig ..

/-! ### The link, the Request Table and the Notice Queue -/

/-- A change of the link that leaves the transmitter. -/
theorem setLink (s : State) {l : Link} (h : l.tx = s.link.tx) : Keeps s { s with link := l } :=
  { front := fun hf => hf.congr rfl h }

theorem count (s : State) (f : Counters → Counters) : Keeps s (s.count f) := setLink s rfl

theorem setReceiver (s : State) (r : Receiver) (g : Timer) : Keeps s (s.setReceiver r g) := setLink s rfl

theorem endFrame (s : State) : Keeps s s.endFrame := setReceiver ..

theorem linkFault (s : State) (k : Nat) (c : Half) : Keeps s (s.linkFault k c) := notify ..

theorem refuse (s : State) (tag code : Byte) (st : Status) : Keeps s (s.refuse tag code st) := by
  have hf : s.frontStands → (s.refuse tag code st).frontStands := fun h => h.refuse tag code st
  rcases refuse_cases s tag code st with ⟨-, e⟩ | ⟨-, e⟩ <;> rw [e] at hf ⊢ <;> exact { front := hf }

theorem openEntry {tag : Byte} (code : Byte) (hn : s.table.entries.any (Pending.holds tag) = false)
    (hl : s.table.entries.length < Config.maxEntries) : Keeps s (s.openEntry tag code) :=
  { front := fun h => h.openEntry code hn hl }

end Keeps

theorem KeepsFor.placeReply (s : State) (tag code : Byte) (st : Status) (data : List Byte) :
    KeepsFor k k s (s.placeReply tag code st data) :=
  { front := fun h => h.placeReply tag code st data }

theorem KeepsFor.handReply (s : State) (o : JobOrigin) (code : Byte) (st : Status) (data : List Byte) :
    KeepsFor k k s (s.handReply o code st data) := by
  match o with
  | .request tag false => exact placeReply s tag code st data
  | .request tag true => exact { front := fun h => h.handReply (.request tag true) code st data }
  | .plan => exact {}

theorem handReply_jobs (s : State) (o : JobOrigin) (code : Byte) (st : Status) (data : List Byte) :
    (s.handReply o code st data).jobs = s.jobs := by
  match o with
  | .request tag false => rfl
  | .request tag true => rfl
  | .plan => rfl

theorem Keeps.placeReply (s : State) (tag code : Byte) (st : Status) (data : List Byte) :
    Keeps s (s.placeReply tag code st data) := KeepsFor.placeReply s tag code st data

theorem Keeps.handReply (s : State) (o : JobOrigin) (code : Byte) (st : Status) (data : List Byte) :
    Keeps s (s.handReply o code st data) := by
  unfold Keeps
  rw [handReply_jobs]
  exact KeepsFor.handReply s o code st data


theorem Notices.takes_reportLoss (q : Notices) : q.Takes q.reportLoss := by
  refine ⟨fun h => ?_, fun h => ?_⟩
  · obtain ⟨ss, rs, ns, hp⟩ := Notices.parts_of_arranged h
    obtain ⟨ns', hp'⟩ := hp.reportLoss
    exact hp'.arranged
  · unfold Notices.reportLoss
    split
    · exact h
    · exact produce_length _ _ _ _ h

theorem dropThrough_length (n : Byte) (rs : List Notice) : (dropThrough n rs).length ≤ rs.length := by
  induction rs with
  | nil => simp [dropThrough]
  | cons r rs ih =>
    unfold dropThrough
    split
    · exact Nat.le_succ _
    · exact ih.trans (Nat.le_succ _)

theorem Notices.takes_acknowledge {q : Notices} {n : Byte} (h : q.records.any (Notice.isSentAs n) = true) :
    q.Takes (q.acknowledge n) := by
  refine ⟨fun ha => ?_, fun hl => (Notices.takes_reportLoss _).bounded ((dropThrough_length n q.records).trans hl)⟩
  obtain ⟨ss, rs, ns, hp⟩ := Notices.parts_of_arranged ha
  obtain ⟨ss', ns', hp'⟩ := hp.acknowledge h
  exact hp'.arranged

theorem Notices.takes_markAll (q : Notices) : q.Takes q.markAll := by
  refine ⟨fun ha => ?_, fun hl => by simpa [Notices.markAll] using hl⟩
  obtain ⟨ss, rs, ns, hp⟩ := Notices.parts_of_arranged ha
  exact hp.markAll.arranged

/-- A new window and enable set in their ranges (R191). -/
theorem Notices.takes_settings (q : Notices) {w : Nat} (hw : w ≤ Config.maxWindow) (e : BitVec 9) :
    q.Takes { q with window := w, enable := e ||| alwaysEnabled } := by
  refine ⟨fun h => ?_, id⟩
  simp only [Notices.arranged, Bool.and_eq_true, decide_eq_true_eq] at h ⊢
  refine ⟨⟨h.1.1, hw⟩, ?_⟩
  ext i
  simp only [BitVec.getElem_and, BitVec.getElem_or]
  cases alwaysEnabled[i] <;> simp

/-- The transmission of the offered record (R184). -/
theorem beginNotice_takes {s : State} {r : Notice} (h : s.notices.offer = some r) :
    s.notices.Takes (s.beginNotice r).notices := by
  obtain ⟨-, hr | ⟨hno, hc, hf⟩⟩ := Notices.offer_cases h
  · obtain ⟨n, hn⟩ := Notice.isResend_iff.mp (List.find?_some hr)
    unfold State.beginNotice
    rw [hn]
    refine ⟨fun ha => ?_, fun hl => by simpa using hl⟩
    obtain ⟨ss, rs, ns, hp⟩ := Notices.parts_of_arranged ha
    obtain ⟨ss', rs', hp'⟩ := hp.resendFirst hr hn
    exact hp'.arranged
  · have hn := Notice.isNew_iff.mp (List.find?_some hf)
    unfold State.beginNotice
    rw [hn]
    refine ⟨fun ha => ?_, fun hl => by simpa using hl⟩
    obtain ⟨ss, rs, ns, hp⟩ := Notices.parts_of_arranged ha
    obtain ⟨ss', ns', hp'⟩ := hp.sendFirst hno hc hf
    exact hp'.arranged

namespace Keeps

theorem acknowledge (s : State) (n : Byte) : Keeps s (s.acknowledge n) := by
  unfold State.acknowledge
  split
  · next h => exact { notices := Notices.takes_acknowledge h }
  · exact count ..

theorem expireTimer (s : State) : Keeps s s.expireTimer := by
  unfold State.expireTimer
  split
  · exact { notices := Notices.takes_markAll _ }
  · exact refl s

theorem arbitrate (s : State) : Keeps s s.arbitrate := by
  have hf : s.frontStands → s.arbitrate.frontStands := fun h => h.arbitrate
  rcases arbitrate_cases s with ⟨-, e⟩ | ⟨item, rest, -, -, e⟩ | ⟨r, -, -, ho, e⟩ | ⟨-, -, -, e⟩ <;> rw [e] at hf ⊢
  · exact refl s
  · exact { front := hf }
  · have hn := beginNotice_takes ho
    cases hr : r.state with
    | new | resend =>
      simp only [State.beginNotice, hr] at hf hn ⊢
      exact { front := hf, notices := hn }
    | sent =>
      simp only [State.beginNotice, hr]
      exact refl s
  · exact refl s

end Keeps

end Sys2Proof.Machine

/-! ## Mark lists: the checks and the order (R5) -/

namespace Sys2Proof.Machine

theorem lineOf_eq_some {b : Byte} {l : Line} : lineOf b = some l ↔ b.toNat / 16 = l.num := by
  unfold lineOf
  split <;> cases l <;> simp_all [Line.num]
  omega

theorem actionOf_eq_some {b : Byte} {a : MarkAction} : actionOf b = some a ↔ b.toNat % 16 = a.num := by
  unfold actionOf
  split <;> cases a <;> simp_all [MarkAction.num]

theorem optTrig_eq_some {b : Byte} {o : Option (Fin 8)} : optTrig b = some o ↔ b.toNat = (o.map (·.val)).getD 255 := by
  unfold optTrig
  split
  · next h =>
    subst h
    cases o with
    | none => simp
    | some k =>
      have := k.isLt
      simp only [Option.some.injEq, reduceCtorEq, Option.map_some, Option.getD_some, false_iff, BitVec.reduceToNat]
      omega
  · next h =>
    have h255 : b.toNat ≠ 255 := fun e => h (BitVec.eq_of_toNat_eq e)
    split
    · next hb =>
      cases o with
      | none => simpa using h255
      | some k => simp [Fin.ext_iff]
    · next hb =>
      cases o with
      | none => simpa using h255
      | some k =>
        have := k.isLt
        simp only [reduceCtorEq, Option.map_some, Option.getD_some, false_iff]
        omega

/-- A mark that passes carries the values of the bytes given (R5, R174). -/
theorem markOf_eq_some {length : Nat} {m : RawMark} {x : Mark} : markOf length m = some x ↔
    (m.position.toNat = x.position ∧ m.lineAction.toNat / 16 = x.line.num ∧ m.lineAction.toNat % 16 = x.action.num ∧
      m.fire.toNat = (x.fire.map (·.val)).getD 255) ∧ x.position < length ∧ ¬(x.action = .none ∧ x.fire = none) := by
  rw [← lineOf_eq_some, ← actionOf_eq_some, ← optTrig_eq_some]
  unfold markOf
  split
  · next line action fire hl ha hf =>
    rw [hl, ha, hf]
    split
    · next hc =>
      constructor
      · intro h
        cases h
        exact ⟨⟨rfl, rfl, rfl, rfl⟩, hc⟩
      · rintro ⟨⟨hp, e1, e2, e3⟩, -, -⟩
        cases e1; cases e2; cases e3
        rw [hp]
    · next hc =>
      simp only [reduceCtorEq, false_iff]
      rintro ⟨⟨hp, e1, e2, e3⟩, hpos, hne⟩
      cases e1; cases e2; cases e3
      exact hc ⟨hp ▸ hpos, hne⟩
  · next hno =>
    simp only [reduceCtorEq, false_iff]
    rintro ⟨⟨-, h1, h2, h3⟩, -⟩
    exact hno _ _ _ h1 h2 h3

theorem exists_line_iff (n : Nat) : (∃ l : Line, n = l.num) ↔ n ≤ 1 := by
  constructor
  · rintro ⟨l, rfl⟩; cases l <;> simp [Line.num]
  · intro h
    obtain rfl | rfl : n = 0 ∨ n = 1 := by omega
    · exact ⟨.m0, rfl⟩
    · exact ⟨.m1, rfl⟩

theorem exists_action_iff (n : Nat) : (∃ a : MarkAction, n = a.num) ↔ n ≤ 4 := by
  constructor
  · rintro ⟨a, rfl⟩; cases a <;> simp [MarkAction.num]
  · intro h
    obtain rfl | rfl | rfl | rfl | rfl : n = 0 ∨ n = 1 ∨ n = 2 ∨ n = 3 ∨ n = 4 := by omega
    · exact ⟨.none, rfl⟩
    · exact ⟨.set, rfl⟩
    · exact ⟨.clear, rfl⟩
    · exact ⟨.toggle, rfl⟩
    · exact ⟨.pulse, rfl⟩

theorem MarkAction.num_eq_zero {a : MarkAction} : a.num = 0 ↔ a = .none := by cases a <;> simp [MarkAction.num]

theorem exists_fire_iff (n : Nat) : (∃ o : Option (Fin 8), n = (o.map (·.val)).getD 255) ↔ n < 8 ∨ n = 255 := by
  constructor
  · rintro ⟨o, rfl⟩
    cases o with
    | none => simp
    | some k => exact .inl k.isLt
  · rintro (h | rfl)
    · exact ⟨some ⟨n, h⟩, rfl⟩
    · exact ⟨none, rfl⟩

/-- The ways in which a mark fails (R5). -/
theorem markOf_eq_none {length : Nat} {m : RawMark} : markOf length m = none ↔
    length ≤ m.position.toNat ∨ 1 < m.lineAction.toNat / 16 ∨ 4 < m.lineAction.toNat % 16 ∨
      (8 ≤ m.fire.toNat ∧ m.fire.toNat ≤ 254) ∨ (m.lineAction.toNat % 16 = 0 ∧ m.fire.toNat = 255) := by
  have hfire := m.fire.isLt
  rw [← not_iff_not, ← ne_eq, Option.ne_none_iff_exists']
  constructor
  · rintro ⟨x, hx⟩
    obtain ⟨⟨hp, hl, ha, hf⟩, hpos, hne⟩ := markOf_eq_some.mp hx
    have h1 := (exists_line_iff _).mp ⟨_, hl⟩
    have h2 := (exists_action_iff _).mp ⟨_, ha⟩
    have h3 := (exists_fire_iff _).mp ⟨_, hf⟩
    have h4 : ¬(m.lineAction.toNat % 16 = 0 ∧ m.fire.toNat = 255) := by
      rintro ⟨h0, h255⟩
      refine hne ⟨MarkAction.num_eq_zero.mp (ha ▸ h0), ?_⟩
      cases hxf : x.fire with
      | none => rfl
      | some k =>
        have := k.isLt
        simp only [hxf, Option.map_some, Option.getD_some] at hf
        omega
    omega
  · intro h
    obtain ⟨l, hl⟩ := (exists_line_iff (m.lineAction.toNat / 16)).mpr (by omega)
    obtain ⟨a, ha⟩ := (exists_action_iff (m.lineAction.toNat % 16)).mpr (by omega)
    obtain ⟨o, ho⟩ := (exists_fire_iff m.fire.toNat).mpr (by omega)
    refine ⟨⟨m.position.toNat, l, a, o⟩, markOf_eq_some.mpr ⟨⟨rfl, hl, ha, ho⟩, by simp only; omega, ?_⟩⟩
    rintro ⟨rfl, rfl⟩
    exact h (.inr (.inr (.inr (.inr ⟨ha, ho⟩))))

/-- The bytes of a stored mark are those given (R174). -/
theorem bytes_of_markOf {length : Nat} {m : RawMark} {x : Mark} (h : markOf length m = some x) : x.bytes = m.bytes := by
  obtain ⟨⟨hp, hl, ha, hf⟩, -, -⟩ := markOf_eq_some.mp h
  have hla : x.action.num + 16 * x.line.num = m.lineAction.toNat := by omega
  simp [Mark.bytes, RawMark.bytes, halfBytes, optByte, u8, ← hp, hla, ← hf]

theorem marksOf_eq_none {length : Nat} {ms : List RawMark} : marksOf length ms = none ↔ ∃ m ∈ ms, markOf length m = none := by
  induction ms with
  | nil => simp [marksOf]
  | cons m ms ih =>
    unfold marksOf
    cases hm : markOf length m with
    | none => simp [hm]
    | some x => cases hs : marksOf length ms <;> simp [hm, ← ih, hs]

/-- What passes stands in the order given. -/
theorem marksOf_eq_some {length : Nat} {ms : List RawMark} {out : List Mark} (h : marksOf length ms = some out) :
    List.Forall₂ (fun m x => markOf length m = some x) ms out := by
  induction ms generalizing out with
  | nil => cases h; exact .nil
  | cons m ms ih =>
    unfold marksOf at h
    split at h
    · next x xs hx hxs => cases h; exact .cons hx (ih hxs)
    · cases h

theorem exists_mark_of_mem {length : Nat} {ms : List RawMark} {xs : List Mark} (h : marksOf length ms = some xs) {x : Mark}
    (hx : x ∈ xs) : ∃ m ∈ ms, markOf length m = some x := by
  have hall := marksOf_eq_some h
  clear h
  induction hall with
  | nil => cases hx
  | @cons m y ms ys hm _ ih =>
    rcases List.mem_cons.mp hx with rfl | hx
    · exact ⟨m, by simp, hm⟩
    · obtain ⟨k, hk, hkx⟩ := ih hx
      exact ⟨k, by simp [hk], hkx⟩

/-! ### The order -/

theorem insertMark_perm (m : Mark) (ms : List Mark) : (insertMark m ms).Perm (m :: ms) := by
  induction ms with
  | nil => exact .refl _
  | cons x xs ih =>
    unfold insertMark
    split
    · exact .refl _
    · exact (ih.cons x).trans (.swap m x xs)

/-- Marks in rising position. -/
abbrev marksRise (ms : List Mark) : Prop := ms.Pairwise (fun a b => a.position ≤ b.position)

theorem insertMark_rising {m : Mark} {ms : List Mark} (h : marksRise ms) : marksRise (insertMark m ms) := by
  induction ms with
  | nil => simp [insertMark]
  | cons x xs ih =>
    obtain ⟨hx, hxs⟩ := List.pairwise_cons.mp h
    unfold insertMark
    split
    · next hlt =>
      refine List.pairwise_cons.mpr ⟨fun y hy => ?_, h⟩
      rcases List.mem_cons.mp hy with rfl | hy
      · omega
      · have := hx y hy; omega
    · next hge =>
      refine List.pairwise_cons.mpr ⟨fun y hy => ?_, ih hxs⟩
      rcases List.mem_cons.mp ((insertMark_perm m xs).mem_iff.mp hy) with rfl | hy
      · omega
      · exact hx y hy

/-- A mark goes behind those of its own position. -/
theorem filter_insertMark {m : Mark} {ms : List Mark} (h : marksRise ms) (p : Nat) :
    (insertMark m ms).filter (fun x => x.position = p) =
      ms.filter (fun x => x.position = p) ++ (if m.position = p then [m] else []) := by
  induction ms with
  | nil => by_cases hp : m.position = p <;> simp [insertMark, hp]
  | cons x xs ih =>
    obtain ⟨hx, hxs⟩ := List.pairwise_cons.mp h
    unfold insertMark
    split
    · next hlt =>
      by_cases hp : m.position = p
      · have hnone : (x :: xs).filter (fun y => decide (y.position = p)) = [] := by
          refine List.filter_eq_nil_iff.mpr fun y hy => ?_
          have : x.position ≤ y.position := by
            rcases List.mem_cons.mp hy with rfl | hy
            · exact le_refl _
            · exact hx y hy
          simp only [decide_eq_true_eq]
          omega
        rw [List.filter_cons_of_pos (by simpa using hp), hnone]
        simp [hp]
      · simp [hp]
    · rw [List.filter_cons, List.filter_cons, ih hxs]
      split <;> simp

theorem foldl_insertMark (ms acc : List Mark) (h : marksRise acc) :
    marksRise (ms.foldl (fun acc m => insertMark m acc) acc) ∧
      (∀ p, (ms.foldl (fun acc m => insertMark m acc) acc).filter (fun x => x.position = p) =
        acc.filter (fun x => x.position = p) ++ ms.filter (fun x => x.position = p)) ∧
      (ms.foldl (fun acc m => insertMark m acc) acc).Perm (acc ++ ms) := by
  induction ms generalizing acc with
  | nil => exact ⟨h, fun p => by simp, by simp⟩
  | cons m ms ih =>
    obtain ⟨h1, h2, h3⟩ := ih (insertMark m acc) (insertMark_rising h)
    refine ⟨h1, fun p => ?_, h3.trans (((insertMark_perm m acc).append_right ms).trans List.perm_middle.symm)⟩
    rw [List.foldl_cons, h2, filter_insertMark h, List.append_assoc, List.filter_cons]
    by_cases hp : m.position = p <;> simp [hp]

theorem sortMarks_perm (ms : List Mark) : (sortMarks ms).Perm ms := (foldl_insertMark ms [] .nil).2.2

theorem sortMarks_rising (ms : List Mark) : marksRise (sortMarks ms) := (foldl_insertMark ms [] .nil).1

theorem filter_sortMarks (ms : List Mark) (p : Nat) :
    (sortMarks ms).filter (fun x => x.position = p) = ms.filter (fun x => x.position = p) :=
  (foldl_insertMark ms [] .nil).2.1 p

theorem markList_eq_some {length : Nat} {ms : List RawMark} {out : List Mark} : markList length ms = some out ↔
    ms.length ≤ 16 ∧ ∃ xs, marksOf length ms = some xs ∧ sortMarks xs = out := by
  unfold markList
  split
  · next h => simp [show ms.length ≤ 16 from h]
  · next h => simp [show ¬ms.length ≤ 16 from h]

/-- A mark list that passes: 16 marks at most, each at a position of the segment. -/
theorem markList_shaped {length : Nat} {ms : List RawMark} {out : List Mark} (h : markList length ms = some out) :
    out.length ≤ Config.maxMarks ∧ ∀ x ∈ out, x.position < length := by
  obtain ⟨hl, xs, hxs, rfl⟩ := markList_eq_some.mp h
  have hall := marksOf_eq_some hxs
  refine ⟨?_, fun x hx => ?_⟩
  · rw [(sortMarks_perm xs).length_eq, ← hall.length_eq]; exact hl
  · obtain ⟨m, -, hm⟩ := exists_mark_of_mem hxs ((sortMarks_perm xs).mem_iff.mp hx)
    exact (markOf_eq_some.mp hm).2.1

/-- Settles O17: a mark list is checked mark by mark and put in a stable order. -/
theorem markListIsChecked : Obligations.MarkListIsChecked := by
  intro length ms
  constructor
  · have : markList length ms = none ↔ 16 < ms.length ∨ marksOf length ms = none := by
      unfold markList
      split
      · next h => simp [show ¬16 < ms.length from Nat.not_lt.mpr h]
      · next h => simp [show 16 < ms.length from Nat.not_le.mp h]
    rw [this, marksOf_eq_none]
    exact or_congr_right (exists_congr fun m => and_congr_right fun _ => markOf_eq_none)
  · intro out hout
    obtain ⟨-, xs, hxs, rfl⟩ := markList_eq_some.mp hout
    refine ⟨sortMarks_rising xs, fun p => ?_⟩
    rw [filter_sortMarks]
    have hall := marksOf_eq_some hxs
    clear hxs hout
    induction hall with
    | nil => rfl
    | @cons m x ms xs hm _ ih =>
      obtain ⟨⟨hp, -⟩, -⟩ := markOf_eq_some.mp hm
      by_cases h : x.position = p
      · simp [hp, h, bytes_of_markOf hm, ih]
      · simp [hp, h, ih]

end Sys2Proof.Machine

/-! ## What every command keeps: the pool, the jobs and the store -/

namespace Sys2Proof.Machine

-- The proofs are checked one after another, so that their memory is not asked for at once.
set_option Elab.async false

variable {k l : Byte → Nat} {s t u : State}

/-! ### The pool -/

theorem createCheck_none {id : Byte} {n : Nat} (h : createCheck id n s = none) :
    s.segment? id = none ∧ s.pool.map.length < Config.mapRecords ∧ blocksFor n ≤ s.pool.free.length := by
  unfold createCheck at h
  split at h
  · cases h
  · next h1 =>
    split at h
    · cases h
    · split at h
      · cases h
      · exact ⟨by simpa using h1, by omega, by omega⟩

theorem all_insertSegment {p : Segment → Bool} {g : Segment} {m : List Segment} (hm : m.all p = true) (hg : p g = true) :
    (insertSegment g m).all p = true := by
  rw [List.all_eq_true] at hm ⊢
  intro x hx
  rcases (mem_insertSegment g m x).mp hx with rfl | hx
  · exact hg
  · exact hm x hx

/-- A length and a mark list in their ranges (R1, R5). -/
def shapeFits (n : Nat) (ms : List Mark) : Prop :=
  (1 ≤ n ∧ n ≤ Config.maxLength) ∧ ms.length ≤ Config.maxMarks ∧ ∀ x ∈ ms, x.position < n

theorem Segment.shaped_iff (g : Segment) : g.shaped = true ↔
    shapeFits g.length g.marks ∧ g.blocks.length = blocksFor g.length ∧ g.fill ≤ g.length := by
  simp only [Segment.shaped, shapeFits, Bool.and_eq_true, decide_eq_true_eq, List.all_eq_true]
  tauto

theorem Slot.shaped_iff (x : Slot) : x.shaped = true ↔ (x.content = .stored → shapeFits x.length x.marks) := by
  cases h : x.content <;> simp [Slot.shaped, shapeFits, h, and_assoc]

/-- A new record in its ranges under a free id, with `r` references. -/
theorem KeepsFor.createSegment {id : Byte} {n : Nat} {ms : List Mark} {st : SegState} (hc : createCheck id n s = none)
    (hm : s.shaped = true → shapeFits n ms) (hst : st ≠ .failed) (r : Nat) (o : Origin) (hl : ∀ i, l i = k i + if id = i then r else 0) :
    KeepsFor k l s (s.createSegment id st n ms r o) := by
  obtain ⟨hn, hlen, hfree⟩ := createCheck_none hc
  exact
    { whole := createSegment_partitioned s id st n ms r o
      rising := fun h => insertSegment_rising h hn
      fewer := fun _ => by
        show (insertSegment _ s.pool.map).length ≤ _
        rw [insertSegment_length]
        exact hlen
      shaped := fun h => by
        have hms := hm h
        simp only [State.shaped, Bool.and_eq_true] at h ⊢
        refine ⟨all_insertSegment h.1 ((Segment.shaped_iff _).mpr ⟨hms, ?_, Nat.zero_le _⟩), h.2⟩
        simp only [List.length_take]
        omega
      refs := fun h => by
        have h0 : k id = 0 := by have := h.known id hn; omega
        exact h.createSegment hn hst n ms r o (fun i hi => by simp [hl, Ne.symm hi]) (by simp [hl, h0]) }

theorem KeepsFor.fillSamples (s : State) (g : Segment) (p : Nat) (xs : List Sample) : KeepsFor k k s (s.fillSamples g p xs) :=
  { memory := writeRun_wf g.blocks xs p }

/-- A change of a record that the references do not see. -/
theorem State.accounts.modSegment_same (h : s.accounts k) {id : Byte} {f : Segment → Segment} (hid : ∀ g, (f g).id = g.id)
    (hr : ∀ g, (f g).refs = g.refs)
    (hs : ∀ g, s.segment? id = some g → (0 < g.refs ∨ (g.retiring = false ∧ g.state ≠ .failed)) →
      0 < g.refs ∨ ((f g).retiring = false ∧ (f g).state ≠ .failed)) : (s.modSegment id f).accounts k :=
  h.modSegment hid (fun _ _ => rfl) (fun _ => rfl) fun g hg hc hp => by rw [hr]; exact ⟨hc, hs g hg hp⟩

/-- A new fill mark within the length. -/
theorem KeepsFor.modFill {id : Byte} {f : Segment → Nat}
    (hf : ∀ g, s.segment? id = some g → g.shaped = true → f g ≤ g.length) :
    KeepsFor k k s (s.modSegment id fun x => { x with fill := f x }) :=
  KeepsFor.modSegment (fun _ => rfl) (fun _ => rfl)
    (fun g hg hs => by
      obtain ⟨h1, h2, -⟩ := (Segment.shaped_iff g).mp hs
      exact (Segment.shaped_iff _).mpr ⟨h1, h2, hf g hg hs⟩)
    fun h => h.modSegment_same (fun _ => rfl) (fun _ => rfl) fun _ _ hp => hp

/-- A segment that becomes READY, reported. -/
theorem KeepsFor.becomeReady (s : State) (id : Byte) :
    KeepsFor k k s ((s.modSegment id fun x => { x with state := .ready }).reportReady id) := by
  have h1 : KeepsFor k k s (s.modSegment id fun x => { x with state := .ready }) :=
    KeepsFor.modSegment (fun _ => rfl) (fun _ => rfl) (fun _ _ hs => hs) fun ha =>
      ha.modSegment_same (fun _ => rfl) (fun _ => rfl) fun g _ hp => hp.imp_right fun hp => ⟨hp.1, by simp⟩
  exact h1.trans (KeepsFor.of_plays (Plays.reportReady _ id) (Forms.reportReady _ id))

/-- The record under an id becomes FAILED and retiring while it has references (R9, R20). -/
theorem KeepsFor.retire {g : Segment} (hg : s.segment? g.id = some g) (hr : g.refs ≠ 0) : KeepsFor k k s (s.retire g) := by
  have hpos (x : Segment) (hx : s.segment? g.id = some x) : 0 < x.refs := by
    obtain rfl : g = x := by simpa [hg] using hx
    omega
  unfold State.retire
  split
  · have h1 : KeepsFor k k s (s.modSegment g.id fun x => { x with state := .failed, retiring := true }) :=
      KeepsFor.modSegment (fun _ => rfl) (fun _ => rfl) (fun _ _ hs => hs) fun ha =>
        ha.modSegment_same (fun _ => rfl) (fun _ => rfl) fun x hx _ => .inl (hpos x hx)
    exact h1.trans (KeepsFor.of_plays (Plays.reportFailed _ _) (Forms.reportFailed _ _))
  · exact KeepsFor.modSegment (fun _ => rfl) (fun _ => rfl) (fun _ _ hs => hs) fun ha =>
      ha.modSegment_same (fun _ => rfl) (fun _ => rfl) fun x hx _ => .inl (hpos x hx)

/-- The failure of a LOADING segment settles the job's reference (R9). -/
theorem KeepsFor.failLoading (s : State) (id : Byte) : KeepsFor (oneMore k id) k s (s.failLoading id) := by
  have other (i : Byte) (hi : i ≠ id) : k i = oneMore k id i := by simp [oneMore, Ne.symm hi]
  have self : oneMore k id id = k id + 1 := by simp [oneMore]
  unfold State.failLoading
  split
  · next hn => exact { refs := fun h => by have := h.known id hn; omega }
  · next g hg =>
    have hid := State.id_of_segment? hg
    split
    · next hr =>
      refine KeepsFor.freeSegment (x := g) true (by simpa [hid] using hg) rfl fun h => ?_
      obtain ⟨hc, -⟩ := h.counted id g hg
      refine h.freeSegment true (fun i hi => other i fun e => hi (e.trans hid.symm)) ?_
      show s.entriesNaming g.id + k g.id = 0
      rw [hid]
      omega
    · next hr =>
      have h1 : KeepsFor (oneMore k id) k s
          (s.modSegment id fun x => { x with state := .failed, retiring := true, refs := x.refs - 1 }) := by
        refine KeepsFor.modSegment (fun _ => rfl) (fun _ => rfl) (fun _ _ hs => hs) fun h =>
          h.modSegment (fun _ => rfl) other (fun hn => by simp [hn] at hg) fun x hx hc _ => ?_
        obtain rfl : g = x := by simpa [hg] using hx
        exact ⟨by simp only; omega, .inl (Nat.pos_of_ne_zero hr)⟩
      exact h1.trans (KeepsFor.of_plays (Plays.reportFailed _ id) (Forms.reportFailed _ id))

/-- A LOAD that matches settles the job's reference (R116). -/
theorem KeepsFor.loadSucceeds (s : State) (id : Byte) :
    KeepsFor (oneMore k id) k s (s.loadSucceeds id) := (KeepsFor.becomeReady s id).trans (KeepsFor.releaseRef _ id)

end Sys2Proof.Machine

/-! ## What every command keeps: the job list, the store and the owners of the requests -/

namespace Sys2Proof.Machine

-- The proofs are checked one after another, so that their memory is not asked for at once.
set_option Elab.async false

variable {k l : Byte → Nat} {s t u : State}

/-! ### The references of jobs -/

/-- The references `k` with that of a job's work, where it has one. -/
def holding (w : Work) (k : Byte → Nat) : Byte → Nat := fun i => k i + if w.segment? = some i then 1 else 0

theorem holding_some {w : Work} {id : Byte} (h : w.segment? = some id) (k : Byte → Nat) : holding w k = oneMore k id := by
  funext i
  simp [holding, oneMore, h]

theorem holding_none {w : Work} (h : w.segment? = none) (k : Byte → Nat) : holding w k = k := by
  funext i
  simp [holding, h]

theorem namingJobs_append_one (js : List Job) (j : Job) : namingJobs (js ++ [j]) = holding j.work (namingJobs js) := by
  funext i
  simp [holding, namingJobs, List.countP_append]

theorem namingJobs_eraseP {js : List Job} {p : Job → Bool} {j : Job} (h : js.find? p = some j) :
    namingJobs js = holding j.work (namingJobs (js.eraseP p)) := by
  obtain ⟨as, bs, rfl, ha, hj⟩ := exists_split_of_find? h
  funext i
  rw [eraseP_append_first ha hj]
  simp only [namingJobs_append, namingJobs_cons, holding]
  omega

/-! ### The store -/

theorem setSlot_shaped {n : Fin 32} {x : Slot} (h : s.shaped = true) (hx : x.shaped = true) : (s.setSlot n x).shaped = true := by
  simp only [State.shaped, Bool.and_eq_true, List.all_eq_true, Vector.mem_toList_iff] at h ⊢
  refine ⟨h.1, fun y hy => ?_⟩
  obtain ⟨i, hi, rfl⟩ := Vector.mem_iff_getElem.mp hy
  simp only [State.setSlot]
  rw [Vector.getElem_set]
  split
  · exact hx
  · exact h.2 _ (Vector.getElem_mem _)

theorem slot_shaped (h : s.shaped = true) (n : Fin 32) : (s.slot n).shaped = true := by
  simp only [State.shaped, Bool.and_eq_true, List.all_eq_true, Vector.mem_toList_iff] at h
  exact h.2 _ (Vector.getElem_mem _)

theorem segment_shaped (h : s.shaped = true) {id : Byte} {g : Segment} (hg : s.segment? id = some g) : g.shaped = true := by
  simp only [State.shaped, Bool.and_eq_true, List.all_eq_true] at h
  exact h.1 g (State.mem_of_segment? hg)

theorem KeepsFor.setSlot {n : Fin 32} {x : Slot} (hs : s.shaped = true → x.shaped = true)
    (hj : s.jobsStand → ∀ j ∈ s.jobs, (s.setSlot n x).writesOpen j = true) : KeepsFor k k s (s.setSlot n x) :=
  { shaped := fun h => setSlot_shaped h (hs h)
    jobs := fun h => h.sublist (List.Sublist.refl _) (hj h) }

/-- A change of a slot that leaves its lock level. -/
theorem KeepsFor.setSlot_level {n : Fin 32} {x : Slot} (hs : s.shaped = true → x.shaped = true)
    (hx : x.effective = (s.slot n).effective) : KeepsFor k k s (s.setSlot n x) := by
  refine KeepsFor.setSlot hs fun h j hj => ?_
  rw [State.writesOpen_congr (s := s) (j := j) rfl fun m => ?_]
  · exact h.writes j hj
  · by_cases hm : m = n
    · subst hm; simpa using hx
    · rw [State.slot_setSlot_other s hm]

theorem KeepsFor.setPlan (s : State) (p : PlanArea) : KeepsFor k k s (s.setPlan p) := {}

/-! ### Selection and acceptance -/

theorem KeepsFor.select (s : State) : KeepsFor k k s s.select := by
  obtain ⟨hf, -, hs⟩ := select_frame s
  have hslots (h : ∀ n, (s.slot n).shaped = true) : ∀ x ∈ s.select.store.slots.toList, x.shaped = true := by
    intro x hx
    obtain ⟨i, hi, rfl⟩ := Vector.mem_iff_getElem.mp (Vector.mem_toList_iff.mp hx)
    have := hs ⟨i, hi⟩
    show (s.select.slot ⟨i, hi⟩).shaped = true
    rw [this]
    exact h _
  exact
    { pending := by rw [hf]
      memory := by rw [hf]; exact fun h => h
      whole := by rw [hf]; exact fun h => h
      rising := by rw [hf]; exact fun h => h
      fewer := by rw [hf]; exact fun h => h
      shaped := fun h => by
        simp only [State.shaped, Bool.and_eq_true]
        refine ⟨?_, List.all_eq_true.mpr (hslots (slot_shaped h))⟩
        simp only [State.shaped, Bool.and_eq_true] at h
        rw [hf]
        exact h.1
      refs := fun h => h.congr (by rw [hf]) (by rw [hf])
      formed := Forms.congr (by rw [hf])
      queues := by rw [hf]; exact fun h => h
      jobs := fun h => h.select
      front := fun h => h.congr (by rw [hf]) (by rw [hf])
      notices := by rw [hf]; exact Notices.Takes.refl _ }

theorem namingJobs_select (s : State) : namingJobs s.select.jobs = namingJobs s.jobs := namingJobs_congr (select_frame s).2.1

theorem Keeps.select (s : State) : Keeps s s.select := by
  unfold Keeps
  rw [namingJobs_select]
  exact KeepsFor.select s

/-- A job taken into the list holds its reference. -/
theorem KeepsFor.accept {w : Work} (o : JobOrigin) (b : Nat) (hl : s.jobs.length < Config.maxJobs)
    (ha : ∀ j ∈ s.jobs, j.work.apart w) (hw : s.writesOpen (newJob w o b) = true) :
    KeepsFor k k s (s.accept w o b) := by
  have h1 : KeepsFor k k s { s with jobs := s.jobs ++ [newJob w o b] } :=
    { jobs := fun h => h.append (j := newJob w o b) hl rfl ha hw }
  exact h1.trans (KeepsFor.select _)

theorem namingJobs_accept (s : State) (w : Work) (o : JobOrigin) (b : Nat) :
    namingJobs (s.accept w o b).jobs = holding w (namingJobs s.jobs) :=
  (namingJobs_select _).trans (namingJobs_append_one s.jobs (newJob w o b))

theorem KeepsFor.acceptLoad (n : Fin 32) (id : Byte) (o : JobOrigin) (b : Nat) (hl : s.jobs.length < Config.maxJobs)
    (hb : s.slotBusy n = false) : KeepsFor k k s (s.acceptLoad n id o b) := by
  have hj : s.jobsStand → (s.acceptLoad n id o b).jobsStand := fun h => h.acceptLoad n id o b hl hb
  unfold State.acceptLoad at hj ⊢
  split at hj
  · next h => rw [if_pos h]; exact { jobs := hj }
  · next h =>
    rw [if_neg h]
    have h1 := KeepsFor.select (k := k) { s with jobs := s.jobs ++ [newJob (.load n id) o b] }
    exact { h1 with
      refs := fun h => h1.refs (h.congr rfl rfl)
      jobs := hj
      front := fun h => h1.front (h.congr rfl rfl) }

theorem namingJobs_acceptLoad (s : State) (n : Fin 32) (id : Byte) (o : JobOrigin) (b : Nat) :
    namingJobs (s.acceptLoad n id o b).jobs = oneMore (namingJobs s.jobs) id := by
  have hw : (Work.load n id).segment? = some id := rfl
  unfold State.acceptLoad
  split
  · show namingJobs (modifyFirst _ _ s.jobs ++ [_]) = _
    rw [namingJobs_append_one, namingJobs_congr (js := s.jobs) (modifyFirst_map (·.work) (f := Job.suspend) (fun _ => rfl) s.jobs)]
    exact holding_some hw _
  · rw [namingJobs_accept]
    exact holding_some hw _

/-- A job that leaves the list, once its reference is settled. -/
theorem Keeps.jobLeavesList {p : Job → Bool} {j : Job} (hj : s.jobs.find? p = some j) (hu : u.jobs = s.jobs)
    (h : KeepsFor (holding j.work (namingJobs (s.jobs.eraseP p))) (namingJobs (s.jobs.eraseP p)) s u) :
    Keeps s { u with jobs := u.jobs.eraseP p } := by
  have h1 : KeepsFor (namingJobs (s.jobs.eraseP p)) (namingJobs (s.jobs.eraseP p)) u { u with jobs := u.jobs.eraseP p } :=
    { jobs := fun hs => hs.sublist List.eraseP_sublist fun x hx => hs.writes x (List.eraseP_sublist.subset hx) }
  have h2 := h.trans h1
  rw [← namingJobs_eraseP hj] at h2
  unfold Keeps
  simp only [hu]
  rw [hu] at h2
  exact h2

theorem KeepsFor.cancelEffect (s : State) (w : Work) : KeepsFor (holding w k) k s (s.cancelEffect w) := by
  cases w with
  | save n id label => rw [holding_some (id := id) rfl]; exact KeepsFor.releaseRef s id
  | load n id => rw [holding_some (id := id) rfl]; exact KeepsFor.failLoading s id
  | erase | setLock | savePlan | clearPlan => rw [holding_none rfl]; exact {}

end Sys2Proof.Machine

/-! ## What every command keeps: the owners of the requests -/

namespace Sys2Proof.Machine

-- The proofs are checked one after another, so that their memory is not asked for at once.
set_option Elab.async false

variable {k l : Byte → Nat} {s t u : State}

/-- The state an owner leaves. -/
def Owned.state : Owned → State
  | .reply s _ _ => s
  | .deferred s => s

/-! ### Pool requests -/

theorem named_eq_ok {id : Byte} {g : Segment} : s.named id = .ok g ↔ idOk id = true ∧ s.segment? id = some g := by
  unfold State.named
  split
  · next h => cases hg : s.segment? id <;> simp [h]
  · next h => simp [h]

theorem KeepsFor.create_host {id : Byte} {n : Nat} {ms : List Mark} (hc : createCheck id n s = none) (hm : shapeFits n ms) :
    KeepsFor k k s (s.createSegment id .filling n ms 0 .host) :=
  KeepsFor.createSegment hc (fun _ => hm) (by simp) 0 .host fun i => by simp

namespace Keeps

theorem ownCreate (f : CreateFields) (s : State) : Keeps s (ownCreate f s).state := by
  unfold Machine.ownCreate
  split
  · exact refl s
  · next ms hms =>
    split
    · exact refl s
    · next hc =>
      obtain ⟨⟨-, -, hn⟩, hl⟩ := createOf_eq_some.mp hms
      exact KeepsFor.create_host hc ⟨hn, markList_shaped hl⟩

theorem ownWrite (f : WriteFields) (s : State) : Keeps s (ownWrite f s).state := by
  unfold Machine.ownWrite
  split
  · exact refl s
  · next g hg =>
    split
    · exact refl s
    · split
      · exact refl s
      · next hoff =>
        split
        · exact refl s
        · next hlen =>
          refine (KeepsFor.fillSamples s g g.fill f.samples).trans
            (KeepsFor.modFill (f := fun x => x.fill + f.samples.length) fun x hx _ => ?_)
          obtain rfl : g = x := by simpa [(named_eq_ok.mp hg).2] using (show s.segment? f.id = some x from hx)
          omega

theorem ownSeal (id : Byte) (s : State) : Keeps s (ownSeal id s).state := by
  unfold Machine.ownSeal
  split
  · exact refl s
  · split
    · exact refl s
    · split
      · exact refl s
      · have h := KeepsFor.becomeReady (k := namingJobs s.jobs) s id
        have hj : ((s.modSegment id fun x => { x with state := .ready }).reportReady id).jobs = s.jobs := by
          rw [(Plays.reportReady (s.modSegment id fun x => { x with state := .ready }) id).frame]; rfl
        unfold Keeps
        simp only [Owned.state, hj]
        exact h

theorem retire_jobs (s : State) (g : Segment) : (s.retire g).jobs = s.jobs := by
  unfold State.retire
  split
  · rw [(Plays.reportFailed (s.modSegment g.id fun x => { x with state := .failed, retiring := true }) g.id).frame]; rfl
  · rfl

theorem ownDelete (id : Byte) (s : State) : Keeps s (ownDelete id s).state := by
  unfold Machine.ownDelete
  split
  · exact refl s
  · next g hg =>
    have hg' := (named_eq_ok.mp hg).2
    have hid := State.id_of_segment? hg'
    split
    · exact refl s
    · split
      · exact refl s
      · split
        · next hr =>
          refine KeepsFor.freeSegment (x := g) false (by rwa [hid]) rfl fun h => h.freeSegment false (fun _ _ => rfl) ?_
          obtain ⟨hc, -⟩ := h.counted id g hg'
          have hc' : g.refs = s.entriesNaming id + namingJobs s.jobs id := hc
          rw [hid]
          show s.entriesNaming id + namingJobs s.jobs id = 0
          omega
        · next hr =>
          unfold Keeps
          simp only [Owned.state, retire_jobs]
          exact KeepsFor.retire (by rwa [hid]) hr

/-! ### Channel requests -/

theorem ownConfigure (f : ConfigFields) (s : State) : Keeps s (ownConfigure f s).state := by
  unfold Machine.ownConfigure
  split
  · exact refl s
  · next c g _ =>
    split
    · exact refl s
    · next hr =>
      have hst : (s.channel c).state = .stopped := by simpa [Channel.isRunning] using hr
      refine Keeps.of_plays (t := s.modChannel c fun ch => { ch with
        defaultGen := g, restCode := f.rest, output := f.rest, activeGen := g }) (Plays.modChannel s c _ rfl)
        (Forms.modChannel fun hf => ?_)
      obtain ⟨-, h0, h1, -, hw⟩ := (Channel.formed_stopped hst).mp hf
      exact (Channel.formed_stopped (ch := { s.channel c with
        defaultGen := g, restCode := f.rest, output := f.rest, activeGen := g }) hst).mpr ⟨rfl, h0, h1, rfl, hw⟩

end Keeps

theorem entryOf_waits {f : EnqueueFields} {c : Fin 4} {e : Entry} (h : entryOf f = some (c, e)) : e.waits = true := by
  unfold entryOf at h
  split at h
  · split at h
    · cases h; rfl
    · cases h
  · cases h

theorem enqueueCheck_none {c : Fin 4} {e : Entry} (h : enqueueCheck c e s = none) :
    (s.channel c).queue.length < Config.queueDepth ∧ ∃ g, s.segment? e.segment = some g ∧ g.state ≠ .failed ∧ g.retiring = false := by
  unfold enqueueCheck at h
  split at h
  · cases h
  · next hl =>
    refine ⟨by omega, ?_⟩
    split at h
    · cases h
    · next g hg =>
      split at h
      · cases h
      · next hs =>
        split at h
        · cases h
        · next hr => exact ⟨g, hg, hs, by simpa using hr⟩

theorem KeepsFor.takeRef {id : Byte} (h : (s.segment? id).isSome = true) : KeepsFor k (oneMore k id) s (s.takeRef id) :=
  KeepsFor.modSegment (fun _ => rfl) (fun _ => rfl) (fun _ _ hs => hs) fun ha => ha.takeRef h

/-- An entry that joins a queue with room for it (R48). -/
theorem Keeps.appendEntry {c : Fin 4} {e : Entry} (hw : e.waits = true) (hl : (s.channel c).queue.length < Config.queueDepth)
    (hs : (s.segment? e.segment).isSome = true) : Keeps s (s.appendEntry c e) := by
  have h0 : Tends s ((s.modChannel c fun ch => { ch with queue := ch.queue ++ [e] }).takeRef e.segment) :=
    (Tends.modChannel s c _).trans (Tends.modSegment (fun _ => rfl) (fun _ => rfl) fun _ _ h => h)
  have hr {k : Byte → Nat} (ha : s.accounts k) :
      ((s.modChannel c fun ch => { ch with queue := ch.queue ++ [e] }).takeRef e.segment).accounts k :=
    (ha.takeRef hs).appendEntry (c := c) (f := fun ch => { ch with queue := ch.queue ++ [e] }) rfl
  have hq (hn : ∀ d, (s.channel d).queue.length ≤ Config.queueDepth) (d : Fin 4) :
      (((s.modChannel c fun ch => { ch with queue := ch.queue ++ [e] }).takeRef e.segment).channel d).queue.length ≤
        Config.queueDepth := by
    show ((s.modChannel c fun ch => { ch with queue := ch.queue ++ [e] }).channel d).queue.length ≤ _
    by_cases hd : d = c
    · subst hd
      simpa using hl
    · rw [State.channel_modChannel_other s hd]
      exact hn d
  have hf : Forms s (s.appendEntry c e) := Forms.appendEntry hw
  unfold State.appendEntry at hf ⊢
  simp only at hf ⊢
  split at hf
  · next hd =>
    rw [if_pos hd]
    have h2 := Plays.evaluateHead ((s.modChannel c fun ch => { ch with queue := ch.queue ++ [e] }).takeRef e.segment) c
    exact Keeps.of_same_jobs (KeepsFor.of_tends (h0.trans h2.toTends) (fun ha => h2.refs _ (hr ha)) hf
      fun hn => h2.queues _ (hq hn)) (by rw [h2.frame]; rfl)
  · next hd =>
    rw [if_neg hd]
    exact Keeps.of_same_jobs (KeepsFor.of_tends h0 hr hf hq) rfl

theorem named_nodup (m : Byte) : (named m).Nodup := List.Nodup.filter _ (by decide)

namespace Keeps

theorem ownEnqueue (f : EnqueueFields) (s : State) : Keeps s (ownEnqueue f s).state := by
  unfold Machine.ownEnqueue
  split
  · exact refl s
  · next c e he =>
    split
    · exact refl s
    · next hc =>
      obtain ⟨hl, g, hg, -⟩ := enqueueCheck_none hc
      exact appendEntry (entryOf_waits he) hl (by simp [hg])

/-- Channels of which none runs. -/
theorem all_stopped {m : Byte} (h : ¬(named m).any (fun c => (s.channel c).isRunning) = true) :
    ∀ c ∈ named m, (s.channel c).state = .stopped := by
  intro c hc
  have hr := List.any_eq_false.mp (Bool.not_eq_true _ ▸ h) c hc
  simpa [Channel.isRunning] using hr

theorem ownStart (m : Byte) (s : State) : Keeps s (ownStart m s).state := by
  unfold Machine.ownStart
  split
  · exact refl s
  · split
    · exact refl s
    · next h => exact startChannels (named_nodup m) (all_stopped h)

theorem ownStopImmediate (f : StopFields) (s : State) : Keeps s (ownStopImmediate f s).state := by
  unfold Machine.ownStopImmediate
  split
  · exact refl s
  · exact forEach stopNow _ s

theorem ownStopAtPassEnd (m : Byte) (s : State) : Keeps s (ownStopAtPassEnd m s).state := by
  unfold Machine.ownStopAtPassEnd
  split
  · exact refl s
  · exact forEach stopAtPassEnd _ s

theorem ownRelease (c : Byte) (s : State) : Keeps s (ownRelease c s).state := by
  unfold Machine.ownRelease
  split
  · exact refl s
  · next c _ =>
    split
    · exact refl s
    · split
      · next hs =>
        exact Keeps.of_plays (t := s.modChannel c _) (Plays.setHead s c (f := fun x => { x with released := true }) fun _ => rfl)
          (Forms.modChannel (Channel.formed_setHead (fun _ => rfl) (fun _ => rfl) hs))
      · exact refl s

theorem ownFlush (c : Byte) (s : State) : Keeps s (ownFlush c s).state := by
  unfold Machine.ownFlush
  split
  · exact refl s
  · exact flush s _

/-! ### Generator and trigger requests -/

theorem ownSetRate (f : RateFields) (s : State) : Keeps s (ownSetRate f s).state := by
  unfold Machine.ownSetRate
  split
  · exact refl s
  · exact modGenerator ..

theorem ownRunRates (m : Byte) (s : State) : Keeps s (ownRunRates m s).state := by
  unfold Machine.ownRunRates
  split
  · exact refl s
  · exact forEach (f := State.runGenerator) (fun g s => modGenerator s g _) _ s

theorem ownHaltRates (m : Byte) (s : State) : Keeps s (ownHaltRates m s).state := by
  unfold Machine.ownHaltRates
  split
  · exact refl s
  · exact forEach (f := State.haltGenerator) (fun g s => modGenerator s g _) _ s

theorem ownSetInputs (f : InputsFields) (s : State) : Keeps s (ownSetInputs f s).state := by
  unfold Machine.ownSetInputs
  split
  · exact refl s
  · exact setTrig ..

theorem ownDefineTrigger (f : TriggerFields) (s : State) : Keeps s (ownDefineTrigger f s).state := by
  unfold Machine.ownDefineTrigger
  split
  · exact refl s
  · exact setTrigger ..

theorem ownFire (k : Byte) (s : State) : Keeps s (ownFire k s).state := by
  unfold Machine.ownFire
  split
  · exact refl s
  · split
    · exact refl s
    · exact fireTrigger _ none s

/-! ### Store requests -/

end Keeps

theorem slotBusy_apart {n : Fin 32} (h : s.slotBusy n = false) {w : Work} (hw : w.slot? = some n) (hp : w.isPlan = false) :
    ∀ j ∈ s.jobs, j.work.apart w := by
  intro j hj
  have hne : j.work.slot? ≠ some n := (by simpa [State.slotBusy, jobNaming] using h : ∀ x ∈ s.jobs, ¬x.work.slot? = some n) j hj
  simp [Work.apart, hw, hp, hne]

theorem planJob_apart (h : (planJob s.jobs).isSome = false) {w : Work} (hw : w.slot? = none) : ∀ j ∈ s.jobs, j.work.apart w := by
  intro j hj
  have hne : j.work.isPlan = false := (by simpa [planJob] using h : ∀ x ∈ s.jobs, x.work.isPlan = false) j hj
  cases hs : j.work.slot? <;> simp [Work.apart, hw, hne, hs]

theorem jobsFull_false (h : ¬s.jobsFull = true) : s.jobs.length < Config.maxJobs := by
  simpa [State.jobsFull] using h

theorem writable_none {n : Fin 32} (h : s.writable n = none) : s.slotBusy n = false ∧ (s.slot n).effective = .unlocked := by
  unfold State.writable at h
  split at h
  · cases h
  · next hb =>
    refine ⟨by simpa using hb, ?_⟩
    unfold Slot.writeCheck at h
    split at h
    · next he => exact he
    · cases h
    · cases h

theorem saveCheck_ok {n : Fin 32} {id : Byte} {g : Segment} (h : s.saveCheck n id = .ok g) : s.segment? id = some g := by
  unfold State.saveCheck at h
  split at h
  · cases h
  · next x hx =>
    split at h
    · cases h
    · split at h
      · cases h
      · split at h
        · cases h
        · cases h; exact hx

/-- A slot in stored state STORED has its content. -/
theorem stored_content {x : Slot} (h : x.stored = .stored) : x.content = .stored := by
  unfold Slot.stored at h
  split at h
  · split at h
    · cases h
    · next hc => exact hc
  · cases h

theorem stored_of_loadCheck {n : Fin 32} {id : Byte} (h : s.loadCheck n id = none) : (s.slot n).stored = .stored := by
  unfold State.loadCheck at h
  split at h
  · cases h
  · next hs => simpa using hs

theorem createCheck_of_loadCheck {n : Fin 32} {id : Byte} (h : s.loadCheck n id = none) :
    createCheck id (s.slot n).length s = none := by
  unfold State.loadCheck at h
  split at h
  · cases h
  · exact h

/-- An accepted job that names no segment. -/
theorem Keeps.accept {w : Work} (o : JobOrigin) (b : Nat) (hl : s.jobs.length < Config.maxJobs)
    (ha : ∀ j ∈ s.jobs, j.work.apart w) (hw : s.writesOpen (newJob w o b) = true) (hg : w.segment? = none) :
    Keeps s (s.accept w o b) := by
  unfold Keeps
  rw [namingJobs_accept, holding_none hg]
  exact KeepsFor.accept o b hl ha hw

namespace Keeps

theorem ownSave (tag : Byte) (f : SaveFields) (s : State) : Keeps s (ownSave tag f s).state := by
  unfold Machine.ownSave
  split
  · exact refl s
  · next hl =>
    split
    · exact refl s
    · next n _ =>
      split
      · exact refl s
      · next hw =>
        obtain ⟨hb, he⟩ := writable_none hw
        split
        · exact refl s
        · next g hg =>
          show KeepsFor _ (namingJobs ((s.takeRef f.id).accept _ _ _).jobs) s _
          rw [namingJobs_accept, holding_some (id := f.id) rfl]
          refine (KeepsFor.takeRef (by simp [saveCheck_ok hg])).trans
            (KeepsFor.accept _ _ (jobsFull_false hl) (slotBusy_apart hb rfl rfl) ?_)
          exact decide_eq_true he

theorem offerLoad {f : LoadFields} {o : JobOrigin} (h : s.offerLoad f o = .ok t) : Keeps s t := by
  unfold State.offerLoad at h
  split at h
  · cases h
  · next hl =>
    split at h
    · cases h
    · next n _ =>
      split at h
      · cases h
      · next hb =>
        split at h
        · cases h
        · next hc =>
          cases h
          unfold Keeps
          rw [namingJobs_acceptLoad]
          refine (KeepsFor.createSegment (createCheck_of_loadCheck hc) (fun hs => ?_) (by simp) 1 (.slot n) fun _ => rfl).trans
            (KeepsFor.acceptLoad n f.id o _ (jobsFull_false hl)
              (show s.slotBusy n = false by simpa using hb))
          exact (Slot.shaped_iff _).mp (slot_shaped hs n) (stored_content (stored_of_loadCheck hc))

theorem ownLoad (tag : Byte) (f : LoadFields) (s : State) : Keeps s (ownLoad tag f s).state := by
  unfold Machine.ownLoad
  split
  · exact refl s
  · next h => exact offerLoad h

theorem ownErase (tag slot : Byte) (s : State) : Keeps s (ownErase tag slot s).state := by
  unfold Machine.ownErase
  split
  · exact refl s
  · next hl =>
    split
    · exact refl s
    · split
      · exact refl s
      · next hw =>
        obtain ⟨hb, he⟩ := writable_none hw
        exact accept _ _ (jobsFull_false hl) (slotBusy_apart hb rfl rfl) (decide_eq_true he) rfl

theorem ownSetLock (tag : Byte) (f : LockFields) (s : State) : Keeps s (ownSetLock tag f s).state := by
  unfold Machine.ownSetLock
  split
  · exact refl s
  · next hl =>
    split
    · split
      · exact refl s
      · next hb =>
        split
        · exact refl s
        · exact accept _ _ (jobsFull_false hl) (slotBusy_apart (by simpa using hb) rfl rfl) rfl rfl
    · exact refl s

theorem ownSavePlan (tag : Byte) (f : PlanFields) (s : State) : Keeps s (ownSavePlan tag f s).state := by
  unfold Machine.ownSavePlan
  split
  · exact refl s
  · next hl =>
    split
    · exact refl s
    · split
      · exact refl s
      · next hp => exact accept _ _ (jobsFull_false hl) (planJob_apart (by simpa using hp) rfl) rfl rfl

theorem ownClearPlan (tag : Byte) (u : Unit) (s : State) : Keeps s (ownClearPlan tag u s).state := by
  unfold Machine.ownClearPlan
  split
  · exact refl s
  · next hl =>
    split
    · exact refl s
    · next hp => exact accept _ _ (jobsFull_false hl) (planJob_apart (by simpa using hp) rfl) rfl rfl

end Keeps

theorem writes_slot? {w : Work} {n : Fin 32} (h : w.writes = some n) : w.slot? = some n := by
  cases w <;> simp_all [Work.writes, Work.slot?]

/-- A lock level may change where no SAVE or ERASE names the slot. -/
theorem KeepsFor.setSlot_unwritten {k : Byte → Nat} {s : State} {n : Fin 32} {x : Slot}
    (hx : s.shaped = true → x.shaped = true) (hn : s.jobsStand → ∀ j ∈ s.jobs, j.work.writes ≠ some n) :
    KeepsFor k k s (s.setSlot n x) := by
  refine KeepsFor.setSlot hx fun h j hj => ?_
  have hw := h.writes j hj
  unfold State.writesOpen at hw ⊢
  cases hm : j.work.writes with
  | none => rfl
  | some m =>
    have hmn : m ≠ n := fun e => hn h j hj (e ▸ hm)
    simpa only [hm, State.slot_setSlot_other s hmn] using hw

/-- The failure of a LOADING segment leaves the job list. -/
theorem failLoading_jobs (s : State) (id : Byte) : (s.failLoading id).jobs = s.jobs := by
  unfold State.failLoading
  split
  · rfl
  · split
    · exact (freeSegment_frame s _ true).2.2.2.2.2.1
    · rw [(Plays.reportFailed (s.modSegment id fun x =>
        { x with state := .failed, retiring := true, refs := x.refs - 1 }) id).frame]; rfl

namespace Keeps

theorem ownFreeze (slot : Byte) (s : State) : Keeps s (ownFreeze slot s).state := by
  unfold Machine.ownFreeze
  split
  · exact refl s
  · next n _ =>
    split
    · exact refl s
    · next hf =>
      split
      · exact refl s
      · next hl =>
        refine KeepsFor.setSlot_unwritten (fun h => slot_shaped h n) fun h j hj hw => ?_
        have := h.writes j hj
        simp only [State.writesOpen, hw, decide_eq_true_eq] at this
        cases hlk : (s.slot n).lock with
        | unlocked => exact hl hlk
        | locked => simp [Slot.effective, hf, hlk] at this

/-- A job taken out of the list (R120, R121). -/
theorem takeOut {tag : Byte} {j : Job} (hj : s.jobs.find? (Job.isOf tag) = some j) : Keeps s (s.takeOut tag j) := by
  have hjobs : (s.cancelEffect j.work).jobs = s.jobs := by
    cases hw : j.work with
    | save n id label => exact (releaseRef_frame s id).2.2.2.2.2.1
    | load n id => exact failLoading_jobs s id
    | erase | setLock | savePlan | clearPlan => rfl
  have h1 := Keeps.jobLeavesList hj hjobs (KeepsFor.cancelEffect s j.work)
  unfold State.takeOut
  simp only
  split
  · exact h1.trans (select _)
  · exact h1

theorem ownCancel (tag : Byte) (s : State) : Keeps s (ownCancel tag s).state := by
  unfold Machine.ownCancel
  split
  · exact refl s
  · next hj =>
    split
    · exact refl s
    · exact (takeOut hj).trans (placeReply ..)

/-! ### Start-up, notices and link requests -/

theorem endStarting (s : State) (r : PlanResult) : Keeps s (s.endStarting r) := (modStartup ..).trans (notify ..)

theorem failPlan (s : State) (i : Nat) (st : Status) : Keeps s (s.failPlan i st) :=
  (stopPlanChannels s).trans (endStarting ..)

theorem ownReset (u : Unit) (s : State) : Keeps s (ownReset u s).state :=
  modStartup s fun u => { u with resetPending := true }

theorem ownAbortPlan (u : Unit) (s : State) : Keeps s (ownAbortPlan u s).state := by
  unfold Machine.ownAbortPlan
  split
  · exact (stopPlanChannels s).trans (endStarting ..)
  · exact refl s
  · exact refl s

theorem ownSetNotices (f : NoticesFields) (s : State) : Keeps s (ownSetNotices f s).state := by
  unfold Machine.ownSetNotices
  split
  · exact refl s
  · next h => exact { notices := Notices.takes_settings _ (Nat.le_of_not_lt fun hw => h (.inl hw)) _ }

theorem ownGetLink (c : Byte) (s : State) : Keeps s (ownGetLink c s).state := by
  unfold Machine.ownGetLink
  split
  · exact refl s
  · show Keeps s (if c = 1 then s.count (fun _ => .zero) else s)
    split
    · exact count ..
    · exact refl s

/-- An owner that changes no state. -/
theorem of_state_eq {o : Owned} (h : o.state = s) : Keeps s o.state := h ▸ refl s

end Keeps

section Reports

theorem ownGetSegment_state (f : GetSegmentFields) (s : State) : (ownGetSegment f s).state = s := by
  unfold ownGetSegment
  split
  · rfl
  · split
    · rfl
    · split <;> rfl

theorem ownGetPool_state (u : Unit) (s : State) : (ownGetPool u s).state = s := rfl

theorem ownGetChannel_state (c : Byte) (s : State) : (ownGetChannel c s).state = s := by
  unfold ownGetChannel; split <;> rfl

theorem ownGetRates_state (u : Unit) (s : State) : (ownGetRates u s).state = s := rfl

theorem ownGetTrigger_state (k : Byte) (s : State) : (ownGetTrigger k s).state = s := by
  unfold ownGetTrigger; split <;> rfl

theorem ownGetInputs_state (u : Unit) (s : State) : (ownGetInputs u s).state = s := rfl

theorem ownGetSlot_state (n : Byte) (s : State) : (ownGetSlot n s).state = s := by
  unfold ownGetSlot; split <;> rfl

theorem ownGetStore_state (n : Option Byte) (s : State) : (ownGetStore n s).state = s := by
  unfold ownGetStore; split <;> rfl

theorem ownGetPlan_state (u : Unit) (s : State) : (ownGetPlan u s).state = s := rfl

theorem ownGetPart_state (u : Unit) (s : State) : (ownGetPart u s).state = s := rfl

end Reports

end Sys2Proof.Machine

/-! ## What every command keeps: completions, the plan run and the course of a START -/

namespace Sys2Proof.Machine

-- The proofs are checked one after another, so that their memory is not asked for at once.
set_option Elab.async false

variable {k l : Byte → Nat} {s t u : State}

/-! ### Completions (R114–R119) -/

/-- Steps 3 to 5 of a completion, once the job's reference is settled. -/
theorem Keeps.finishJob {j : Job} (hj : s.activeJob = some j) (hu : u.jobs = s.jobs)
    (h : KeepsFor (holding j.work (namingJobs (s.jobs.eraseP Job.isActive))) (namingJobs (s.jobs.eraseP Job.isActive)) s u)
    (st : Status) (data : List Byte) : Keeps s (u.finishJob j st data) :=
  (Keeps.jobLeavesList hj hu h).trans ((Keeps.handReply _ _ _ st data).trans (Keeps.select _))

theorem Job.apart_symm {j k : Job} (h : j.apart k = true) : k.apart j = true := by
  simp only [Job.apart, Bool.and_eq_true, Bool.or_eq_true, Option.isNone_iff_eq_none, decide_eq_true_eq] at h ⊢
  obtain ⟨h1, h2⟩ := h
  refine ⟨?_, by rwa [Bool.and_comm]⟩
  rcases h1 with h1 | h1
  · cases hk : k.work.slot? with
    | none => exact .inl rfl
    | some n => exact .inr (by simp [h1])
  · exact .inr (Ne.symm h1)

/-- One job at most names a slot (R103). -/
theorem State.jobsStand.unique (h : s.jobsStand) {j k : Job} (hj : j ∈ s.jobs) (hk : k ∈ s.jobs) {n : Fin 32}
    (hjn : j.work.slot? = some n) (hkn : k.work.slot? = some n) : j = k := by
  by_contra hne
  have : Std.Symm (fun j k : Job => j.apart k = true) := ⟨fun _ _ => Job.apart_symm⟩
  have := h.apart.forall hj hk hne
  simp [Job.apart, hjn, hkn] at this

theorem activeJob_mem {j : Job} (h : s.activeJob = some j) : j ∈ s.jobs := List.mem_of_find?_eq_some h

namespace Keeps

theorem completeSave (s : State) : Keeps s s.completeSave := by
  unfold State.completeSave
  split
  · next j hj =>
    split
    · next n id label hw =>
      split
      · next g hg =>
        refine finishJob (u := (s.setSlot n _).releaseRef id) hj (releaseRef_frame _ id).2.2.2.2.2.1 ?_ _ _
        rw [hw, holding_some (id := id) rfl]
        refine (KeepsFor.setSlot_level (n := n) (x := (s.slot n).saved g label (segSamples s.pool.mem g))
          (fun h => (Slot.shaped_iff _).mpr fun _ => ?_) rfl).trans (KeepsFor.releaseRef _ id)
        exact ((Segment.shaped_iff g).mp (segment_shaped h hg)).1
      · exact refl s
    · exact refl s
  · exact refl s

theorem completeErase (s : State) : Keeps s s.completeErase := by
  unfold State.completeErase
  split
  · next j hj =>
    split
    · next n hw =>
      refine finishJob (u := s.setSlot n (s.slot n).erased) hj rfl ?_ _ _
      rw [hw, holding_none rfl]
      exact KeepsFor.setSlot_level (fun _ => rfl) rfl
    · exact refl s
  · exact refl s

theorem completeSetLock (s : State) : Keeps s s.completeSetLock := by
  unfold State.completeSetLock
  split
  · next j hj =>
    split
    · next n level hw =>
      refine finishJob (u := s.setSlot n { s.slot n with lock := level }) hj rfl ?_ _ _
      rw [hw, holding_none rfl]
      refine KeepsFor.setSlot_unwritten (fun h => slot_shaped h n) fun h k hk hkn => ?_
      obtain rfl := h.unique (activeJob_mem hj) hk (by rw [hw]; rfl) (writes_slot? hkn)
      simp [hw, Work.writes] at hkn
    · exact refl s
  · exact refl s

theorem completeSavePlan (s : State) : Keeps s s.completeSavePlan := by
  unfold State.completeSavePlan
  split
  · next j hj =>
    split
    · next r hw =>
      refine finishJob (u := s.setPlan ⟨some r, .none⟩) hj rfl ?_ _ _
      rw [hw, holding_none rfl]
      exact KeepsFor.setPlan ..
    · exact refl s
  · exact refl s

theorem completeClearPlan (s : State) : Keeps s s.completeClearPlan := by
  unfold State.completeClearPlan
  split
  · next j hj =>
    split
    · next hw =>
      refine finishJob (u := s.setPlan ⟨none, .none⟩) hj rfl ?_ _ _
      rw [hw, holding_none rfl]
      exact KeepsFor.setPlan ..
    · exact refl s
  · exact refl s

end Keeps

/-! ### The load transfer -/

theorem KeepsFor.changeSlot (s : State) (n : Fin 32) (cells : List (Nat × Sample)) : KeepsFor k k s (s.changeSlot n cells) :=
  KeepsFor.setSlot_level (fun h => slot_shaped h n) rfl

theorem Keeps.transferBlock (s : State) (cells : List (Nat × Sample)) : Keeps s (s.transferBlock cells) := by
  unfold State.transferBlock
  split
  · split
    · split
      · next g hg =>
        split
        · next hlt =>
          refine (KeepsFor.changeSlot s _ cells).trans ((KeepsFor.fillSamples _ g _ _).trans
            (KeepsFor.modFill (f := fun _ => g.transferred + Config.blockSamples) fun x hx hs => ?_))
          obtain rfl : g = x := by simpa [hg] using (show s.segment? _ = some x from hx)
          obtain ⟨-, hb, -⟩ := (Segment.shaped_iff g).mp hs
          rw [hb] at hlt
          simp only [Segment.transferred, blocksFor, Config.blockSamples] at hlt ⊢
          omega
        · exact Keeps.refl s
      · exact Keeps.refl s
    · exact Keeps.refl s
  · exact Keeps.refl s

theorem KeepsFor.transferRest {n : Fin 32} {id : Byte} {g : Segment} (hg : s.segment? id = some g) (cells : List (Nat × Sample)) :
    KeepsFor k k s (s.transferRest n g cells) := by
  have hid := State.id_of_segment? hg
  refine (KeepsFor.changeSlot s _ cells).trans ((KeepsFor.fillSamples _ g _ _).trans
    (KeepsFor.modFill (f := fun _ => g.length) fun x hx _ => ?_))
  obtain rfl : g = x := by simpa [hid, hg] using (show s.segment? g.id = some x from hx)
  exact le_refl _

/-! ### The plan run -/

namespace Keeps

theorem ownStep (p : PlanStep) (s : State) : Keeps s (ownStep p s).state := by
  cases p with
  | load f => exact refl s
  | config f => exact ownConfigure f s
  | rate f => exact ownSetRate f s
  | inputs f => exact ownSetInputs f s
  | trigger f => exact ownDefineTrigger f s
  | enqueue f => exact ownEnqueue f s
  | run m => exact ownRunRates m s
  | start m => exact ownStart m s

theorem noteStarted (s : State) (p : PlanStep) : Keeps s (s.noteStarted p) := by
  unfold State.noteStarted
  split
  · exact modStartup ..
  · exact refl s

theorem runSteps (ps : List PlanStep) (i : Nat) (s : State) : Keeps s (State.runSteps ps i s) := by
  induction ps generalizing i s with
  | nil => exact endStarting ..
  | cons p ps ih =>
    have h1 : Keeps s (s.modStartup fun u => { u with step := some i }) := modStartup ..
    unfold State.runSteps
    simp only
    split
    · split
      · next h => exact h1.trans (offerLoad h)
      · exact h1.trans (failPlan ..)
    · have h2 := ownStep p (s.modStartup fun u => { u with step := some i })
      split
      · next h => rw [h] at h2; exact h1.trans h2
      · next h =>
        rw [h] at h2
        split
        · exact h1.trans (KeepsFor.trans h2 ((noteStarted ..).trans (ih ..)))
        · exact h1.trans (failPlan ..)

theorem completeScan (s : State) : Keeps s s.completeScan := by
  unfold State.completeScan
  split
  · simp only
    split
    · exact (modStartup ..).trans ((modStartup ..).trans (runSteps ..))
    · exact (modStartup ..).trans (endStarting ..)
  · exact refl s

theorem planOutcome (s : State) (st : Status) : Keeps s (s.planOutcome st) := by
  unfold State.planOutcome State.resumePlan
  split
  · split
    · split
      · exact runSteps ..
      · exact refl s
    · exact failPlan ..
  · exact refl s

theorem handLoad (s : State) (o : JobOrigin) (st : Status) (data : List Byte) : Keeps s (s.handLoad o st data) := by
  cases o with
  | request tag orphaned => exact handReply ..
  | plan => exact planOutcome ..

theorem completeLoad (s : State) (cells : List (Nat × Sample)) : Keeps s (s.completeLoad cells) := by
  unfold State.completeLoad
  split
  · next j hj =>
    split
    · next n id hw =>
      split
      · next g hg =>
        have hid := State.id_of_segment? hg
        have finish {u : State} {st : Status} {data : List Byte} (hu : u.jobs = s.jobs)
            (h : KeepsFor (oneMore (namingJobs (s.jobs.eraseP Job.isActive)) g.id) (namingJobs (s.jobs.eraseP Job.isActive)) s u) :
            Keeps s (u.finishLoad j st data) := by
          refine (Keeps.jobLeavesList hj hu ?_).trans ((handLoad _ _ st data).trans (select _))
          rw [hw, holding_some (id := g.id) (by rw [hid]; rfl)]
          exact h
        unfold State.judgeLoad
        simp only
        split
        · refine finish ?_ ((KeepsFor.transferRest hg cells).trans (KeepsFor.loadSucceeds _ _))
          rw [State.loadSucceeds, (releaseRef_frame _ _).2.2.2.2.2.1, (Plays.reportReady _ _).frame]; rfl
        · refine finish ?_ ((KeepsFor.transferRest hg cells).trans (KeepsFor.failLoading _ _))
          rw [failLoading_jobs]; rfl
      · exact refl s
    · exact refl s
  · exact refl s

/-! ### Events -/

theorem event {f : State → State} (h : Keeps s (f s)) : Keeps s (s.event f) := by
  rcases event_cases s f with ⟨-, e⟩ | ⟨-, e⟩ <;> rw [e]
  · exact h.trans (arbitrate _)
  · exact refl s

theorem betweenStarts (p : StartStep) (s : State) : Keeps s (betweenStarts p s) := by
  cases p with
  | channel => exact refl s
  | tick m => exact event (makeTick s m)
  | tickDelivery c g => exact event (deliver s c g)
  | sample levels order => exact event (takeSample s levels order)
  | loadCompletion cells => exact event (completeLoad s cells)

end Keeps

end Sys2Proof.Machine

/-! ## What every command keeps: the course of a START, the receiver, the resets, and every step -/

namespace Sys2Proof.Machine

-- The proofs are checked one after another, so that their memory is not asked for at once.
set_option Elab.async false

variable {k l : Byte → Nat} {s t u : State}

/-! ### STOPPED channels stand while others act -/

/-- Channels that stand STOPPED stay STOPPED. -/
def Rests (s t : State) : Prop := ∀ c, (s.channel c).state = .stopped → (t.channel c).state = .stopped

namespace Rests

theorem refl (s : State) : Rests s s := fun _ h => h

theorem trans (h : Rests s t) (h' : Rests t u) : Rests s u := fun c hc => h' c (h c hc)

theorem of_channels (h : t.channels = s.channels) : Rests s t := fun c hc => by simpa [State.channel, h] using hc

theorem of_only {c : Fin 4} (h : Only c s t) (hc : (s.channel c).state = .stopped → (t.channel c).state = .stopped) : Rests s t := by
  intro d hd
  by_cases e : d = c
  · exact e ▸ hc (e ▸ hd)
  · rw [h.other d e]; exact hd

theorem forEach {α : Type} {f : α → State → State} (h : ∀ x s, Rests s (f x s)) (xs : List α) (s : State) :
    Rests s (Machine.forEach f xs s) := by
  induction xs generalizing s with
  | nil => exact refl s
  | cons x xs ih => exact (h x s).trans (ih (f x s))

theorem modChannel (s : State) (c : Fin 4) {f : Channel → Channel} (h : (f (s.channel c)).state = (s.channel c).state) :
    Rests s (s.modChannel c f) := of_only (Only.modChannel s c f) fun hc => by rw [State.channel_modChannel_self, h]; exact hc

theorem readyReport (id : Byte) (c : Fin 4) (s : State) : Rests s (State.readyReport id c s) :=
  of_only (Only.readyReport id c s) fun hc => by
    unfold State.readyReport
    split
    · next h _ => rw [hc] at h; cases h
    · exact hc

theorem failedReport (id : Byte) (c : Fin 4) (s : State) : Rests s (State.failedReport id c s) :=
  of_only (Only.failedReport id c s) fun hc => by
    unfold State.failedReport
    split
    · next h _ => rw [hc] at h; cases h
    · exact hc

theorem takeFiring (k : Fin 8) (ctx : TickContext) (c : Fin 4) (s : State) : Rests s (State.takeFiring k ctx c s) :=
  of_only (Only.takeFiring k ctx c s) fun hc => by
    have hw : (s.channel c).waitsOn ≠ some k := fun h => by simp [(Channel.waiting_of_waitsOn h).1] at hc
    have hu : (s.channel c).untilOf ≠ some k := fun h => by
      unfold Channel.untilOf at h
      split at h <;> simp [Channel.headStarted, hc] at h
    unfold State.takeFiring
    rw [if_neg hw, if_neg hu]
    exact hc

theorem fireTrigger (k : Fin 8) (ctx : TickContext) (s : State) : Rests s (State.fireTrigger k ctx s) := by
  obtain ⟨x, hx⟩ := fireTrigger_notify k ctx s
  exact fun c hc => by rw [hx c]; exact forEach (takeFiring k ctx) _ (s.setTrigger k x) c hc

theorem applyMark (c g : Fin 4) (n : Word) (m : Mark) (s : State) : Rests s (State.applyMark c g n m s) := by
  have h1 : Rests s (s.modChannel c (Channel.mark g m)) := modChannel s c (by unfold Channel.mark; split <;> rfl)
  unfold State.applyMark State.markFiring
  simp only
  split
  · split
    · exact h1
    · exact h1.trans (fireTrigger _ _ _)
  · exact h1

theorem emit {d : Delivery} (h : (s.channel d.chan).state = .playing) : Rests s (s.emit d) := by
  unfold State.emit
  split
  · next e _ _ =>
    split
    · next seg _ =>
      have hp := (Forms.applyMarks (c := d.chan) (s := s.modChannel d.chan fun ch =>
        { ch with output := readSample s.pool.mem seg.blocks e.cursor, emittedAt := s.emittedWith d }) (by simp [h]) d.gen d.tick
        (seg.marks.filter fun m => m.position = e.cursor)).2
      refine (modChannel s d.chan (f := fun ch =>
        { ch with output := readSample s.pool.mem seg.blocks e.cursor, emittedAt := s.emittedWith d }) rfl).trans
        ((forEach (applyMark _ _ _) _ _).trans (of_only (Only.advance ..) fun hc => ?_))
      rw [hp] at hc
      cases hc
    · exact refl s
  · exact refl s

theorem takeTick (s : State) (d : Delivery) : Rests s (s.takeTick d) := by
  have h : Rests s (s.modChannel d.chan fun ch =>
      { ch.letPass d.gen with m0 := ch.m0.endPulse d.gen, m1 := ch.m1.endPulse d.gen }) := modChannel s d.chan (by simp)
  rcases State.takeTick_cases s d with ⟨he, e⟩ | ⟨-, e⟩ <;> rw [e]
  · exact h.trans (emit (by simp [(Channel.playing_of_emitsAt he).1]))
  · exact h

theorem failLoading (s : State) (id : Byte) : Rests s (s.failLoading id) := by
  unfold State.failLoading
  split
  · exact refl s
  · split
    · exact of_channels (freeSegment_frame ..).1
    · exact (of_channels rfl : Rests s (s.modSegment id _)).trans (forEach (failedReport id) _ _)

theorem loadSucceeds (s : State) (id : Byte) : Rests s (s.loadSucceeds id) :=
  (of_channels rfl : Rests s (s.modSegment id _)).trans
    ((forEach (readyReport id) _ _).trans (of_channels (releaseRef_frame ..).1))

end Rests

/-! ### The events between the starts of a START -/

/-- What falls between two starts on a READY part: a STOPPED channel stays STOPPED, and the part stays READY. -/
structure Passes (s t : State) : Prop where
  rests : Rests s t
  startup : t.startup = s.startup

theorem Passes.refl (s : State) : Passes s s := ⟨Rests.refl s, rfl⟩

theorem Passes.trans (h : Passes s t) (h' : Passes t u) : Passes s u := ⟨h.rests.trans h'.rests, h'.startup.trans h.startup⟩

theorem Passes.of_plays (h : Plays s t) (hr : Rests s t) : Passes s t := ⟨hr, by rw [h.frame]⟩

theorem Passes.arbitrate (s : State) : Passes s s.arbitrate :=
  ⟨Rests.of_channels (State.arbitrate_channels s), State.arbitrate_startup s⟩

theorem Passes.makeTick (s : State) (m : TickMade) : Passes s (s.makeTick m) := by
  unfold State.makeTick
  simp only
  split
  · exact ⟨Rests.refl s, rfl⟩
  · exact refl s

theorem Passes.deliver (s : State) (c g : Fin 4) : Passes s (s.deliver c g) := by
  unfold State.deliver
  split
  · have h1 (ds : List Delivery) : Passes s { s with deliveries := ds } := ⟨Rests.refl s, rfl⟩
    exact (h1 _).trans (of_plays (Plays.takeTick ..) (Rests.takeTick _ _))
  · exact refl s

theorem Passes.takeSample (s : State) (levels : Byte) (order : List (Fin 8)) : Passes s (s.takeSample levels order) := by
  have each (r f n : Byte) (k : Fin 8) (s : State) : Passes s (State.examineTrigger r f n k s) := by
    unfold State.examineTrigger
    simp only
    split
    · exact (⟨Rests.refl s, rfl⟩ : Passes s (s.setTrigger k _)).trans
        (of_plays (Plays.fireTrigger _ _ _) (Rests.fireTrigger _ _ _))
    · exact ⟨Rests.refl s, rfl⟩
  have all (r f n : Byte) (ks : List (Fin 8)) (s : State) : Passes s (forEach (State.examineTrigger r f n) ks s) := by
    induction ks generalizing s with
    | nil => exact refl s
    | cons x ks ih => exact (each r f n x s).trans (ih _)
  unfold State.takeSample
  split
  · exact (⟨Rests.refl s, rfl⟩ : Passes s { s with trig := s.trig.confirmAll levels }).trans (all _ _ _ _ _)
  · exact ⟨Rests.refl s, rfl⟩

theorem Passes.handReply (s : State) (o : JobOrigin) (code : Byte) (st : Status) (data : List Byte) :
    Passes s (s.handReply o code st data) := by
  match o with
  | .request tag false => exact ⟨Rests.refl s, rfl⟩
  | .request tag true => exact ⟨Rests.refl s, rfl⟩
  | .plan => exact refl s

theorem Passes.select (s : State) : Passes s s.select :=
  ⟨Rests.of_channels (by rw [(select_frame s).1]), by rw [(select_frame s).1]⟩

theorem Passes.finishLoad (h : s.startup.phase = .ready) (j : Job) (st : Status) (data : List Byte) :
    Passes s (s.finishLoad j st data) := by
  have hl : Passes s s.jobLeaves := ⟨Rests.refl s, rfl⟩
  have hh : Passes s.jobLeaves (s.jobLeaves.handLoad j.origin st data) := by
    cases j.origin with
    | request tag orphaned => exact handReply ..
    | plan =>
      have : s.jobLeaves.handLoad .plan st data = s.jobLeaves := by
        show s.jobLeaves.planOutcome st = _
        simp [State.planOutcome, h]
      rw [this]
      exact refl _
  exact hl.trans (hh.trans (select _))

theorem Passes.loadSucceeds (s : State) (id : Byte) : Passes s (s.loadSucceeds id) :=
  ⟨Rests.loadSucceeds s id, by
    rw [State.loadSucceeds, (releaseRef_frame _ _).2.2.2.2.2.2.1, (Plays.reportReady _ _).frame]; rfl⟩

theorem Passes.failLoading (s : State) (id : Byte) : Passes s (s.failLoading id) := by
  refine ⟨Rests.failLoading s id, ?_⟩
  unfold State.failLoading
  split
  · rfl
  · split
    · exact (freeSegment_frame s _ true).2.2.2.2.2.2.1
    · rw [(Plays.reportFailed _ id).frame]; rfl

theorem Passes.completeLoad (h : s.startup.phase = .ready) (cells : List (Nat × Sample)) : Passes s (s.completeLoad cells) := by
  unfold State.completeLoad
  split
  · next j _ =>
    split
    · next n id _ =>
      split
      · next g _ =>
        have h1 : Passes s (s.transferRest n g cells) := ⟨Rests.refl s, rfl⟩
        unfold State.judgeLoad
        simp only
        split
        · have h2 := h1.trans (loadSucceeds _ g.id)
          exact h2.trans (finishLoad (by rw [h2.startup]; exact h) _ _ _)
        · have h2 := h1.trans (failLoading _ g.id)
          exact h2.trans (finishLoad (by rw [h2.startup]; exact h) _ _ _)
      · exact refl s
    · exact refl s
  · exact refl s

theorem Passes.event {f : State → State} (h : Passes s (f s)) : Passes s (s.event f) := by
  rcases event_cases s f with ⟨-, e⟩ | ⟨-, e⟩ <;> rw [e]
  · exact h.trans (arbitrate _)
  · exact refl s

theorem Passes.betweenStarts (h : s.startup.phase = .ready) (p : StartStep) : Passes s (betweenStarts p s) := by
  cases p with
  | channel => exact refl s
  | tick m => exact event (f := fun s => s.makeTick m) (makeTick s m)
  | tickDelivery c g => exact event (f := fun s => s.deliver c g) (deliver s c g)
  | sample levels order => exact event (f := fun s => s.takeSample levels order) (takeSample s levels order)
  | loadCompletion cells => exact event (f := fun s => s.completeLoad cells) (completeLoad h cells)

/-- The course of a START whose channels stand STOPPED, on a READY part. -/
theorem Keeps.startCourse {course : List StartStep} {left : List (Fin 4)} (hl : left.Nodup)
    (hs : ∀ c ∈ left, (s.channel c).state = .stopped) (hp : s.startup.phase = .ready) :
    Keeps s (State.startCourse course left s).1 := by
  induction course generalizing left s with
  | nil =>
    rw [State.startCourse_nil, State.startAll_fst]
    exact startChannels hl hs
  | cons p course ih =>
    by_cases hne : left = []
    · subst hne
      rw [State.startCourse_over]
      exact refl s
    · have between (h : ∀ c, p ≠ .channel c) : Keeps s (State.startCourse (p :: course) left s).1 := by
        have hb := Passes.betweenStarts hp p
        rw [State.startCourse_between h course hne]
        exact (betweenStarts p s).trans (ih hl (fun c hc => hb.rests c (hs c hc)) (by rw [hb.startup]; exact hp))
      cases p with
      | channel c =>
        by_cases hc : c ∈ left
        · rw [State.startCourse_start hc]
          refine (startChannel (hs c hc)).trans (ih (hl.erase c) (fun d hd => ?_) ?_)
          · rw [(Only.startChannel c s).other d fun e => ((List.Nodup.mem_erase_iff hl).mp hd).1 e]
            exact hs d (List.mem_of_mem_erase hd)
          · rw [(Plays.startChannel c s).frame]; exact hp
        · rw [State.startCourse_skip hc]
          exact ih hl hs hp
      | tick | tickDelivery | sample | loadCompletion => exact between (by simp)

theorem Keeps.ownStartIn (course : List StartStep) (m : Byte) (hp : s.startup.phase = .ready) :
    Keeps s (ownStartIn course m s).state := by
  unfold Machine.ownStartIn
  split
  · exact refl s
  · split
    · exact refl s
    · next h => exact startCourse (named_nodup m) (all_stopped h) hp

end Sys2Proof.Machine

/-! ## What every step keeps: the receiver, the resets, and the invariants -/

namespace Sys2Proof.Machine

-- The proofs are checked one after another, so that their memory is not asked for at once.
set_option Elab.async false

variable {k l : Byte → Nat} {s t u : State}

/-! ### The dispatch of frames -/

namespace Keeps

theorem countGood (s : State) : Keeps s s.countGood := count ..

/-- A request frame at its dispatch: refused, or taken by an owner, which finds the part READY unless the request is exempt. -/
theorem onRequest {α : Type} {tag code : Byte} {exempt : Bool} {body : Body α} {owner : α → State → Owned}
    (h : ∀ f s, (exempt = true ∨ s.startup.phase = .ready) → Keeps s (owner f s).state) (s : State) :
    Keeps s (Machine.onRequest tag code exempt body owner s) := by
  refine KeepsFor.trans (countGood s) ?_
  show Keeps s.countGood (takeRequest tag code exempt body owner s.countGood)
  rcases takeRequest_cases tag code exempt body owner s.countGood with ⟨st, e⟩ | ⟨f, -, hn, hl, hx, e⟩ <;> rw [e]
  · exact refuse ..
  · refine KeepsFor.trans (openEntry code hn hl) ?_
    have ho := h f (s.countGood.openEntry tag code) hx
    cases hown : owner f (s.countGood.openEntry tag code) with
    | reply v st data =>
      rw [hown] at ho
      exact KeepsFor.trans ho (placeReply ..)
    | deferred v =>
      rw [hown] at ho
      exact ho

/-- A request whose owner keeps every state. -/
theorem onRequest_of {α : Type} {tag code : Byte} {exempt : Bool} {body : Body α} {owner : α → State → Owned}
    (h : ∀ f s, Keeps s (owner f s).state) (s : State) : Keeps s (Machine.onRequest tag code exempt body owner s) :=
  onRequest (fun f s _ => h f s) s

theorem onKindError (s : State) : Keeps s (onKindError s) := (count ..).trans (linkFault ..)

theorem onCheckError (s : State) : Keeps s (onCheckError s) := (count ..).trans (linkFault ..)

theorem onLengthError (s : State) : Keeps s (onLengthError s) := (count ..).trans (linkFault ..)

theorem onUnknown (tag : Byte) (body : List Byte) (s : State) : Keeps s (onUnknown tag body s) := by
  cases body with
  | nil => exact (count s _).trans (refuse ..)
  | cons code rest => exact (count s _).trans (refuse ..)

theorem dispatch (i : Instr) (s : State) : Keeps s (dispatch i s) := by
  cases i with
  | createSegment => exact onRequest_of ownCreate s
  | writeSamples => exact onRequest_of ownWrite s
  | sealSegment => exact onRequest_of ownSeal s
  | deleteSegment => exact onRequest_of ownDelete s
  | getSegment => exact onRequest_of (fun f s => of_state_eq (ownGetSegment_state f s)) s
  | getPool => exact onRequest_of (fun f s => of_state_eq (ownGetPool_state f s)) s
  | configureChannel => exact onRequest_of ownConfigure s
  | enqueue => exact onRequest_of ownEnqueue s
  | start t run =>
    exact onRequest (fun m s hx => ownStartIn run.course m (hx.resolve_left (by simp))) s
  | stopImmediate => exact onRequest_of ownStopImmediate s
  | stopAtPassEnd => exact onRequest_of ownStopAtPassEnd s
  | release => exact onRequest_of ownRelease s
  | flush => exact onRequest_of ownFlush s
  | getChannel => exact onRequest_of (fun f s => of_state_eq (ownGetChannel_state f s)) s
  | setRate => exact onRequest_of ownSetRate s
  | runRates => exact onRequest_of ownRunRates s
  | haltRates => exact onRequest_of ownHaltRates s
  | getRates => exact onRequest_of (fun f s => of_state_eq (ownGetRates_state f s)) s
  | setInputs => exact onRequest_of ownSetInputs s
  | defineTrigger => exact onRequest_of ownDefineTrigger s
  | fire => exact onRequest_of ownFire s
  | getTrigger => exact onRequest_of (fun f s => of_state_eq (ownGetTrigger_state f s)) s
  | getInputs => exact onRequest_of (fun f s => of_state_eq (ownGetInputs_state f s)) s
  | save t => exact onRequest_of (ownSave t) s
  | load t => exact onRequest_of (ownLoad t) s
  | erase t => exact onRequest_of (ownErase t) s
  | setLock t => exact onRequest_of (ownSetLock t) s
  | freeze => exact onRequest_of ownFreeze s
  | savePlan t => exact onRequest_of (ownSavePlan t) s
  | clearPlan t => exact onRequest_of (ownClearPlan t) s
  | cancel => exact onRequest_of ownCancel s
  | getSlot => exact onRequest_of (fun f s => of_state_eq (ownGetSlot_state f s)) s
  | getStore => exact onRequest_of (fun f s => of_state_eq (ownGetStore_state f s)) s
  | getPlan => exact onRequest_of (fun f s => of_state_eq (ownGetPlan_state f s)) s
  | reset => exact onRequest_of ownReset s
  | abortPlan => exact onRequest_of ownAbortPlan s
  | setNotices => exact onRequest_of ownSetNotices s
  | getLink => exact onRequest_of ownGetLink s
  | getPart => exact onRequest_of (fun f s => of_state_eq (ownGetPart_state f s)) s
  | unknownRequest tag body => exact onUnknown tag body s
  | noticeAcknowledgement n => exact (count s _).trans (acknowledge ..)
  | kindError => exact onKindError s
  | _ => exact refl s

/-! ### Bytes, faults and breaks -/

theorem dispatchContent (content : List Byte) (s : State) : Keeps s (dispatchContent content s) := by
  unfold Machine.dispatchContent
  split
  · exact dispatch ..
  · exact refl s

theorem closeFrame (content : List Byte) (check : Half) (s : State) : Keeps s (closeFrame content check s) := by
  unfold Machine.closeFrame
  split
  · exact (endFrame s).trans (dispatchContent ..)
  · exact (endFrame s).trans (onCheckError _)

theorem rxByte (b : Byte) (s : State) : Keeps s (State.rxByte b s) := by
  unfold State.rxByte
  split
  · split
    · exact setReceiver ..
    · exact count ..
  · split
    · exact setReceiver ..
    · exact (endFrame s).trans (onLengthError _)
  · split
    · exact setReceiver ..
    · exact setReceiver ..
  · exact setReceiver ..
  · exact closeFrame ..

theorem expireGap (s : State) : Keeps s s.expireGap := by
  unfold State.expireGap
  split
  · exact refl s
  · exact (endFrame s).trans ((count ..).trans (linkFault ..))

theorem endReplyFrame (s : State) {item : LineItem} {f : List Byte} (h : s.link.tx = .reply item f) :
    Keeps s { s with table := s.table.afterReply item, link := { s.link with tx := .free } } := by
  refine { front := fun hf => hf.sublist ?_ ?_ }
  · cases item with
    | reply => exact List.eraseP_sublist
    | refusal => exact List.Sublist.refl _
  · cases item <;> simp [State.refusalsUsed, Table.afterReply, h, Transmitter.refusals]

theorem endNotice (s : State) : Keeps s s.endNotice := by
  unfold State.endNotice
  split
  · next h =>
    refine KeepsFor.trans (t := { s with link := { s.link with tx := .free } }) ?_ (count _ _)
    exact { front := fun hf => hf.of_entries rfl (by simp [State.refusalsUsed, h, Transmitter.refusals]) }
  · exact refl s

end Keeps

/-! ### Resets -/

/-- Blocks at their reset values meet every part of a sound state (R127, R128). -/
theorem Keeps.of_reset (hp : t.pending = s.pending) (hpool : t.pool = .reset)
    (hch : t.channels = #v[.reset 0, .reset 1, .reset 2, .reset 3]) (hj : t.jobs = []) (ht : t.table = ⟨[], []⟩)
    (hx : t.link.tx = .free) (hn : t.notices = .reset) (hslots : ∀ n, (s.slot n).shaped = true → (t.slot n).shaped = true) :
    Keeps s t := by
  have hcs (c : Fin 4) : t.channel c = .reset c := by
    simp only [State.channel, hch]
    fin_cases c <;> rfl
  have hseg (id : Byte) : t.segment? id = none := by simp [State.segment?, hpool, Pool.reset]
  exact
    { pending := hp
      memory := fun _ => by rw [hpool]; rfl
      whole := fun _ => by rw [hpool]; simp [Pool.partitioned, Pool.reset]
      rising := fun _ => by rw [hpool]; exact .nil
      fewer := fun _ => by rw [hpool]; simp [Pool.reset]
      shaped := fun h => by
        simp only [State.shaped, Bool.and_eq_true, List.all_eq_true, Vector.mem_toList_iff]
        refine ⟨by simp [hpool, Pool.reset], fun x hx => ?_⟩
        obtain ⟨i, hi, rfl⟩ := Vector.mem_iff_getElem.mp hx
        exact hslots ⟨i, hi⟩ (slot_shaped h _)
      refs := fun _ => by
        refine ⟨by simp [Pool.keyed, hpool, Pool.reset], fun id g hg => by simp [hseg] at hg, fun id _ => ?_⟩
        simp [State.entriesNaming, hcs, Channel.reset, allChannels, hj, namingJobs]
      formed := fun _ c => by
        rw [hcs]
        exact (Channel.formed_stopped rfl).mpr ⟨rfl, rfl, rfl, rfl, rfl⟩
      queues := fun _ c => by simp [hcs, Channel.reset]
      jobs := fun _ => by constructor <;> simp [hj]
      front := fun _ => by
        constructor <;> simp [ht, State.refusalsUsed, hx, Transmitter.refusals, State.tagsDistinct]
      notices := by rw [hn]; exact ⟨fun _ => Notices.arranged_reset, fun _ => by simp [Notices.reset]⟩ }

theorem slot_afterReset (x : Store) (c : Cause) (n : Fin 32) :
    ∃ b, (x.afterReset c).slots[n] = { x.slots[n] with freeze := b } := by
  cases c with
  | powerOn => exact ⟨false, by simp [Store.afterReset]⟩
  | pin => exact ⟨x.slots[n].freeze, rfl⟩
  | soft => exact ⟨x.slots[n].freeze, rfl⟩

theorem Keeps.takeReset (s : State) (c : Cause) (b : BitVec 2) : Keeps s (s.takeReset c b) := by
  refine Keeps.of_reset (by simp) (by simp) (by simp) (by simp) (by simp) (by simp [Link.reset]) (by simp) fun n h => ?_
  obtain ⟨f, hf⟩ := slot_afterReset s.store c n
  have : (s.takeReset c b).slot n = { s.slot n with freeze := f } := by simpa [State.slot] using hf
  rw [this]
  exact h

theorem Keeps.hold (s : State) : Keeps s s.hold :=
  Keeps.of_reset (by simp) (by simp) (by simp) (by simp) (by simp) (by simp [Link.reset]) (by simp) fun n h => by
    have : s.hold.slot n = s.slot n := by simp [State.slot]
    rwa [this]

theorem Keeps.setSupply (s : State) (a b : Bool) : Keeps s { s with powered := a, resetnLow := b } := {}

namespace Keeps

theorem endReply (s : State) : Keeps s s.endReply := by
  unfold State.endReply
  split
  · next item f h =>
    have h1 := (endReplyFrame s h).trans (count _ fun c => { c with replyFrames := satInc c.replyFrames })
    simp only
    split
    · exact h1.trans (takeReset ..)
    · exact h1
  · exact refl s

/-- A break at the receiver, the Request Table, the jobs and the notices (steps 2 to 5 of R152). -/
theorem orphanAll (s : State) : Keeps s { s with
    link := { s.link with receiver := .hunt, gap := .stopped, breakHeld := true }, table := s.table.afterBreak
    jobs := s.jobs.map Job.orphan, notices := s.notices.markAll } := by
  have hworks : (s.jobs.map Job.orphan).map (·.work) = s.jobs.map (·.work) := by
    rw [List.map_map]; rfl
  unfold Keeps
  simp only
  rw [namingJobs_congr hworks]
  refine
    { jobs := fun h => h.of_works hworks (fun _ => rfl) ?_ ?_ ?_
      front := fun h => ⟨?_, ?_, ?_⟩
      notices := Notices.takes_markAll _ }
  · rw [List.countP_map]; exact h.active
  · rw [List.countP_map]; exact h.suspended
  · intro j hj
    obtain ⟨x, hx, rfl⟩ := List.mem_map.mp hj
    exact h.fit x hx
  · simp only [Table.afterBreak, List.length_map]
    exact (List.length_filter_le _ _).trans h.few
  · have : s.link.tx.refusals ≤ Config.maxRefusals := by
      have := h.refusals
      simp only [State.refusalsUsed] at this
      exact (Nat.le_add_left _ _).trans this
    simpa [State.refusalsUsed, Table.afterBreak] using this
  · refine (tagsDistinct_iff _).mpr (List.pairwise_map.mpr (((tagsDistinct_iff s).mp h.tags).filter _ |>.imp ?_))
    intro e f hef
    unfold Pending.orphan
    split <;> split <;> simp_all [Pending.apart]

theorem breakLink (s : State) : Keeps s s.breakLink := (count s _).trans ((orphanAll _).trans (linkFault ..))

theorem takeBreak (s : State) : Keeps s s.takeBreak := by
  unfold State.takeBreak
  split
  · exact refl s
  · split
    · exact (breakLink s).trans (takeReset ..)
    · exact breakLink s

theorem endBreak (s : State) : Keeps s s.endBreak := setLink s rfl

end Keeps

end Sys2Proof.Machine

/-! ## The invariants of every step -/

namespace Sys2Proof.Machine

-- The proofs are checked one after another, so that their memory is not asked for at once.
set_option Elab.async false

variable {s t u : State}

/-- What a command does to a sound state: every part is kept, and the transmitter is busy or nothing waits for it (R154). -/
structure Sounds (s t : State) : Prop where
  keeps : Keeps s t
  settled : s.settled = true → t.settled = true

namespace Sounds

theorem refl (s : State) : Sounds s s := ⟨Keeps.refl s, id⟩

theorem trans (h : Sounds s t) (h' : Sounds t u) : Sounds s u := ⟨h.keeps.trans h'.keeps, h'.settled ∘ h.settled⟩

theorem event {f : State → State} (h : Keeps s (f s)) : Sounds s (s.event f) := by
  rcases event_cases s f with ⟨-, e⟩ | ⟨-, e⟩ <;> rw [e]
  · exact ⟨h.trans (Keeps.arbitrate _), fun _ => arbitrate_settled _⟩
  · exact refl s

theorem lineEvent {f : State → State} (h : Keeps s (f s)) : Sounds s (s.lineEvent f) := by
  unfold State.lineEvent
  split
  · exact refl s
  · exact event h

theorem takeByte (b : Byte) (s : State) : Sounds s (s.takeByte b) := lineEvent (Keeps.rxByte b s)

theorem takeBytes (bs : List Byte) (s : State) : Sounds s (State.takeBytes bs s) := by
  induction bs generalizing s with
  | nil => exact refl s
  | cons b bs ih => exact (takeByte b s).trans (ih _)

theorem receive {act : State → State} (h : ∀ s, Keeps s (act s)) (content : List Byte) (check : Half) (s : State) :
    Sounds s (s.receive content check act) := by
  unfold State.receive
  split
  · exact lineEvent (f := fun s => act s.endFrame) ((Keeps.endFrame s).trans (h _))
  · exact takeBytes ..

theorem receiveFrame (i : Instr) (s : State) : Sounds s (s.receiveFrame i) := receive (Keeps.dispatch i) _ _ s

theorem receiveLength (v : Byte) (s : State) : Sounds s (s.receiveLength v) := by
  unfold State.receiveLength
  split
  · exact takeByte ..
  · exact takeBytes ..

/-- Right after a reset nothing waits for the transmitter. -/
theorem of_atReset (h : Keeps s t) (ht : t.atReset) : Sounds s t :=
  ⟨h, fun _ => arbitrate_atReset ht ▸ arbitrate_settled t⟩

theorem powerUp (s : State) (b : BitVec 2) : Sounds s (s.powerUp b) :=
  of_atReset ((Keeps.setSupply s true s.resetnLow).trans (Keeps.takeReset ..)) (State.atReset_takeReset _ _ _)

theorem powerDown (s : State) : Sounds s s.powerDown :=
  of_atReset ((Keeps.setSupply s false s.resetnLow).trans (Keeps.hold _)) (State.atReset_hold _)

theorem assertReset (s : State) : Sounds s s.assertReset :=
  of_atReset ((Keeps.setSupply s s.powered true).trans (Keeps.hold _)) (State.atReset_hold _)

theorem releaseReset (s : State) (b : BitVec 2) : Sounds s (s.releaseReset b) := by
  unfold State.releaseReset
  split
  · exact of_atReset ((Keeps.setSupply s s.powered false).trans (Keeps.takeReset ..)) (State.atReset_takeReset _ _ _)
  · exact ⟨Keeps.setSupply s s.powered false, id⟩

end Sounds

/-! ### Every command -/

/-- Every command keeps each part of a sound state. -/
theorem exec_sounds {i : Instr} (h : exec i s = .next t) : Sounds s t := by
  cases i with
  | start tag run => cases h; exact Sounds.receive (Keeps.dispatch (.start tag run)) _ _ s
  | lengthError v => cases h; exact Sounds.receiveLength v s
  | checkError content check => cases h; exact Sounds.receive (Keeps.closeFrame content check) _ _ s
  | gapError => cases h; exact Sounds.event (Keeps.expireGap s)
  | stopBitError => cases h; exact Sounds.lineEvent (Keeps.count s _)
  | huntByte v => cases h; exact Sounds.takeByte v s
  | syncByte => cases h; exact Sounds.takeByte _ s
  | frameByte v => cases h; exact Sounds.takeByte v s
  | lineBreak => cases h; exact Sounds.event (Keeps.takeBreak s)
  | rxdReturnsToMark => cases h; exact Sounds.event (Keeps.endBreak s)
  | replyFrameEnd => cases h; exact Sounds.event (Keeps.endReply s)
  | noticeFrameEnd => cases h; exact Sounds.event (Keeps.endNotice s)
  | retransmitTimerExpiry => cases h; exact Sounds.event (Keeps.expireTimer s)
  | tick m => cases h; exact Sounds.event (f := fun s => s.makeTick m) (Keeps.makeTick s m)
  | tickDelivery c g => cases h; exact Sounds.event (f := fun s => s.deliver c g) (Keeps.deliver s c g)
  | sample levels order =>
    cases h; exact Sounds.event (f := fun s => s.takeSample levels order) (Keeps.takeSample s levels order)
  | blockTransfer cells => cases h; exact Sounds.event (f := fun s => s.transferBlock cells) (Keeps.transferBlock s cells)
  | saveCompletion => cases h; exact Sounds.event (Keeps.completeSave s)
  | loadCompletion cells => cases h; exact Sounds.event (f := fun s => s.completeLoad cells) (Keeps.completeLoad s cells)
  | eraseCompletion => cases h; exact Sounds.event (Keeps.completeErase s)
  | setLockCompletion => cases h; exact Sounds.event (Keeps.completeSetLock s)
  | savePlanCompletion => cases h; exact Sounds.event (Keeps.completeSavePlan s)
  | clearPlanCompletion => cases h; exact Sounds.event (Keeps.completeClearPlan s)
  | scanCompletion => cases h; exact Sounds.event (Keeps.completeScan s)
  | powerOn b => cases h; exact Sounds.powerUp s b
  | powerLoss => cases h; exact Sounds.powerDown s
  | resetnAsserted => cases h; exact Sounds.assertReset s
  | pinReset b => cases h; exact Sounds.releaseReset s b
  | _ => cases h; exact Sounds.receiveFrame _ s

/-! ### One reference period -/

theorem Timer.period_stopped (limit : Nat) (x : Timer) : x.period limit = .stopped ↔ x = .stopped := by
  cases x with
  | stopped => simp [Timer.period]
  | running e => simp only [Timer.period]; split <;> simp

theorem Notices.takes_period (q : Notices) (limit : Nat) : q.Takes { q with timer := q.timer.period limit } := by
  refine ⟨fun h => ?_, id⟩
  simp only [Notices.arranged, Bool.and_eq_true, decide_eq_true_eq, Timer.period_stopped] at h ⊢
  exact h

theorem Job.period_work (j : Job) : j.period.work = j.work := by unfold Job.period; split <;> rfl

theorem Job.period_state (j : Job) : j.period.state = j.state := by unfold Job.period; split <;> rfl

theorem Job.period_suspensions (j : Job) : j.period.suspensions = j.suspensions := by unfold Job.period; split <;> rfl

theorem period_sounds (s : State) : Sounds s s.period := by
  have hworks : (s.jobs.map Job.period).map (·.work) = s.jobs.map (·.work) := by
    rw [List.map_map]; exact List.map_congr_left fun j _ => Job.period_work j
  unfold State.period
  split
  · refine ⟨?_, id⟩
    unfold Keeps
    rw [namingJobs_congr hworks]
    refine { jobs := fun h => h.of_works hworks (fun _ => rfl) ?_ ?_ ?_, notices := Notices.takes_period .. }
    · rw [List.countP_map]
      have e : Job.isActive ∘ Job.period = Job.isActive := by funext j; simp [Job.isActive, Job.period_state]
      rw [e]; exact h.active
    · rw [List.countP_map]
      have e : Job.isSuspended ∘ Job.period = Job.isSuspended := by funext j; simp [Job.isSuspended, Job.period_state]
      rw [e]; exact h.suspended
    · intro j hj
      obtain ⟨x, hx, rfl⟩ := List.mem_map.mp hj
      have e : x.period.fit = x.fit := by
        simp [Job.fit, Job.isSuspended, Job.period_state, Job.period_work, Job.period_suspensions]
      rw [e]; exact h.fit x hx
  · exact Sounds.refl s

/-! ### Every step -/

/-- A command sees and keeps the same blocks with whatever commands wait behind it. -/
theorem step_sounds (h : step s = .next t) : Sounds { s with pending := s.pending.tail } t := by
  unfold step at h
  split at h
  · next i rest hp => rw [hp]; exact exec_sounds h
  · next hp =>
    cases h
    have : { s with pending := s.pending.tail } = s := by rw [hp, List.tail_nil, ← hp]
    rw [this]
    exact period_sounds s

/-- Settles O57: of what a step keeps, the pool's part. -/
theorem poolStaysWhole : Obligations.PoolStaysWhole := by
  intro s t h
  have hk := (step_sounds h).keeps
  exact ⟨hk.memory, hk.whole, hk.rising⟩

/-- Settles O58: of what a step keeps, the channels' part. -/
theorem channelsStayFormed : Obligations.ChannelsStayFormed := by
  intro s t h hs
  exact (channelsFormed_iff t).mpr ((step_sounds h).keeps.formed ((channelsFormed_iff s).mp hs))

/-- Settles O59: of what a step keeps, the Notice Queue's part. -/
theorem noticeQueueStaysArranged : Obligations.NoticeQueueStaysArranged :=
  fun _ _ h => (step_sounds h).keeps.notices.arranged

/-- The parts of a sound state. -/
theorem sound_iff (s : State) : s.sound ↔ Memory.wf s.pool.mem = true ∧ s.pool.partitioned ∧ s.shaped = true ∧
    s.accounts (namingJobs s.jobs) ∧ (∀ c, (s.channel c).formed = true) ∧ s.pool.map.length ≤ Config.mapRecords ∧
    (∀ c, (s.channel c).queue.length ≤ Config.queueDepth) ∧ s.jobsStand ∧ s.frontStands ∧ s.notices.arranged = true ∧
    s.notices.records.length ≤ Config.maxNotices ∧ s.settled = true := by
  have hq : (allChannels.all fun c => decide ((s.channel c).queue.length ≤ Config.queueDepth)) = true ↔
      ∀ c, (s.channel c).queue.length ≤ Config.queueDepth := by
    rw [List.all_eq_true]
    exact ⟨fun h c => of_decide_eq_true (h c (by fin_cases c <;> simp [allChannels])), fun h c _ => decide_eq_true (h c)⟩
  unfold State.sound
  rw [referenced_iff, channelsFormed_iff, State.withinCapacity, Bool.and_eq_true, decide_eq_true_eq, hq, jobsStand_iff]
  constructor
  · rintro ⟨h1, h2, h3, h4, h5, ⟨⟨h6, h7, h8, h9, h10⟩, h11⟩, h12, h13, h14, h15⟩
    exact ⟨h1, h2, h3, h4, h5, h6, h11, ⟨h7, h12⟩, ⟨h8, h9, h13⟩, h14, h10, h15⟩
  · rintro ⟨h1, h2, h3, h4, h5, h6, h11, ⟨h7, h12⟩, ⟨h8, h9, h13⟩, h14, h10, h15⟩
    exact ⟨h1, h2, h3, h4, h5, ⟨⟨h6, h7, h8, h9, h10⟩, h11⟩, h12, h13, h14, h15⟩

theorem sound_of_sounds (h : Sounds s t) (hs : s.sound) : t.sound := by
  obtain ⟨h1, h2, h3, h4, h5, h6, h7, h8, h9, h10, h11, h12⟩ := (sound_iff s).mp hs
  have hk := h.keeps
  exact (sound_iff t).mpr ⟨hk.memory h1, hk.whole h2, hk.shaped h3, hk.refs h4, hk.formed h5, hk.fewer h6, hk.queues h7,
    hk.jobs h8, hk.front h9, hk.notices.arranged h10, hk.notices.bounded h11, h.settled h12⟩

/-- Settles O60: a step keeps every part of a sound state. -/
theorem soundStatesStaySound : Obligations.SoundStatesStaySound :=
  fun s _ h hs => sound_of_sounds (s := { s with pending := s.pending.tail }) (step_sounds h) hs

/-- Settles O3: the queue of commands is among what a command keeps. -/
theorem commandsKeepTheQueue : Obligations.CommandsKeepTheQueue := fun _ _ _ h => (exec_sounds h).keeps.pending

/-- Settles O1. -/
theorem stepTakesFrontCommand : Obligations.StepTakesFrontCommand := by
  intro c rest s h
  simp [step, h]

/-- Settles O56: the state of reset meets each part by its reset values. -/
theorem resetIsSound : Obligations.ResetIsSound := by
  refine ⟨⟨rfl, by simp [Pool.partitioned, State.reset, Pool.reset], by decide, by decide, by decide, by decide, by decide,
    by decide, by decide, rfl⟩, ?_, rfl, fun n => ?_, rfl, rfl, rfl, rfl⟩
  · exact State.atReset_of_fields rfl rfl rfl rfl rfl rfl .powerOn rfl 0 rfl rfl rfl
  · simp [State.slot, State.reset, Store.shipped]

end Sys2Proof.Machine

/-! ## The idle step, power and resets (R127, R128, R140) -/

namespace Sys2Proof.Machine

/-- Settles O2: the counts of one period, part by part. -/
theorem idleStepIsOnePeriod : Obligations.IdleStepIsOnePeriod := by
  intro s hp
  have hstep : step s = .next s.period := by simp [step, hp]
  refine ⟨fun ha => by simp [hstep, State.period, ha], fun ha => ⟨s.period, hstep, ?_⟩⟩
  have hperiod : s.period = { s with
      generators := Vector.ofFn (fun g => s.generators[g].period), trig := s.trig.period, jobs := s.jobs.map Job.period
      link := { s.link with gap := s.link.gap.period Config.gapTime }
      notices := { s.notices with timer := s.notices.timer.period Config.retransmitTime } } := by simp [State.period, ha]
  rw [hperiod]
  refine ⟨?_, fun g => ?_, ?_, ?_, ?_⟩
  · unfold TriggerUnit.period; split <;> rfl
  · have : (Vector.ofFn (fun g : Fin 4 => s.generators[g].period))[g] = s.generators[g].period := by simp
    show (Vector.ofFn (fun g : Fin 4 => s.generators[g].period))[g] = _
    rw [this]
    unfold Generator.period State.generator
    split <;> rfl
  · simp only [TriggerUnit.period]; split <;> rfl
  · refine List.map_congr_left fun j _ => ?_
    unfold Job.period Job.isActive
    simp only [decide_eq_true_eq]
    split <;> rfl
  · refine ⟨fun h => by simp [h, Timer.period], fun e h => ?_, fun h => by simp [h, Timer.period], fun e h => ?_⟩
    all_goals simp only [h, Timer.period]; split <;> rfl

/-- Settles O4: each of the two resets is `takeReset` with its cause. -/
theorem powerAndPinReset : Obligations.PowerAndPinReset := by
  intro straps s
  refine ⟨⟨s.powerUp straps, rfl, State.atReset_takeReset _ _ _, ?_, ?_, ?_, ?_, ?_, fun n => ?_, ?_⟩, fun h =>
    ⟨({ s with resetnLow := false }).takeReset .pin straps, ?_, State.atReset_takeReset _ _ _, ?_, ?_, ?_, ?_, ?_, ?_⟩, fun h => ?_⟩
  · simp [State.powerUp, Startup.reset]
  · simp [State.powerUp, Link.reset]
  · simp [State.powerUp]
  · simp [State.powerUp]
  · simp [State.powerUp]
  · simp [State.powerUp, State.slot, Store.afterReset]
  · simp [State.powerUp]
  · show Host.Outcome.next (s.releaseReset straps) = _
    simp [State.releaseReset, h]
  · simp [Startup.reset]
  · simp [Link.reset]
  · simpa using h
  · simp
  · simp
  · simp
  · show Host.Outcome.next (s.releaseReset straps) = _
    simp [State.releaseReset, h]

/-! ### A part that does not work takes nothing -/

theorem event_held {s : State} (h : s.alive = false) (f : State → State) : s.event f = s := by simp [State.event, h]

theorem lineEvent_held {s : State} (h : s.alive = false) (f : State → State) : s.lineEvent f = s := by
  unfold State.lineEvent
  split
  · rfl
  · exact event_held h f

theorem takeBytes_held {s : State} (h : s.alive = false) (bs : List Byte) : State.takeBytes bs s = s := by
  induction bs with
  | nil => rfl
  | cons b bs ih =>
    have : s.takeByte b = s := lineEvent_held h _
    simp only [State.takeBytes, this, ih]

theorem receive_held {s : State} (h : s.alive = false) (content : List Byte) (check : Half) (act : State → State) :
    s.receive content check act = s := by
  unfold State.receive
  split
  · exact lineEvent_held h _
  · exact takeBytes_held h _

theorem receiveLength_held {s : State} (h : s.alive = false) (v : Byte) : s.receiveLength v = s := by
  unfold State.receiveLength
  split
  · exact lineEvent_held h _
  · exact takeBytes_held h _

theorem exec_held {s : State} (h : s.alive = false) {c : Instr} (h1 : ∀ v, c ≠ .powerOn v) (h2 : c ≠ .powerLoss)
    (h3 : c ≠ .resetnAsserted) (h4 : ∀ v, c ≠ .pinReset v) : exec c s = .next s := by
  cases c with
  | powerOn v => exact absurd rfl (h1 v)
  | powerLoss => exact absurd rfl h2
  | resetnAsserted => exact absurd rfl h3
  | pinReset v => exact absurd rfl (h4 v)
  | lengthError v => exact congrArg Host.Outcome.next (receiveLength_held h v)
  | stopBitError | huntByte | syncByte | frameByte => exact congrArg Host.Outcome.next (lineEvent_held h _)
  | gapError | lineBreak | rxdReturnsToMark | replyFrameEnd | noticeFrameEnd | retransmitTimerExpiry | tick | tickDelivery | sample
  | blockTransfer | saveCompletion | loadCompletion | eraseCompletion | setLockCompletion | savePlanCompletion
  | clearPlanCompletion | scanCompletion => exact congrArg Host.Outcome.next (event_held h _)
  | _ => exact congrArg Host.Outcome.next (receive_held h _ _ _)

/-- Settles O5: the two holds, and a held part. -/
theorem heldPartStandsAtReset : Obligations.HeldPartStandsAtReset := by
  intro s
  refine ⟨⟨s.assertReset, rfl, State.atReset_hold _, ?_, ?_, ?_, ?_, ?_, ?_⟩,
    ⟨s.powerDown, rfl, State.atReset_hold _, ?_, ?_, ?_, ?_, ?_, ?_⟩, fun h c h1 h2 h3 h4 => exec_held h h1 h2 h3 h4⟩
  all_goals simp [State.assertReset, State.powerDown, Startup.reset, Link.reset]

/-- Settles O6: with a pending RESET, the end of its OK reply is the SOFT reset. -/
theorem softResetAtReplyEnd : Obligations.SoftResetAtReplyEnd := by
  intro s tag data bytes ha hp hx
  have he : s.endReply.atReset ∧ ∃ u : State, s.endReply = u.softReset ∧ u.link.straps = s.link.straps ∧ u.powered = s.powered ∧
      u.resetnLow = s.resetnLow ∧ u.store = s.store ∧ u.pending = s.pending := by
    have hend : ∃ u : State, s.endReply = u.softReset ∧ u.link.straps = s.link.straps ∧ u.powered = s.powered ∧
        u.resetnLow = s.resetnLow ∧ u.store = s.store ∧ u.pending = s.pending := by
      refine ⟨({ s with table := s.table.afterReply (.reply tag 0x70 .ok data), link := { s.link with tx := .free } }).count
        (fun c => { c with replyFrames := satInc c.replyFrames }), ?_, rfl, rfl, rfl, rfl, rfl⟩
      simp [State.endReply, hx, hp, LineItem.isResetReply]
    obtain ⟨u, hu, hr⟩ := hend
    exact ⟨hu ▸ State.atReset_takeReset _ _ _, u, hu, hr⟩
  obtain ⟨hat, u, hu, h1, h2, h3, h4, h5⟩ := he
  have hexec : exec .replyFrameEnd s = .next s.endReply := by
    show Host.Outcome.next (s.event State.endReply) = _
    rw [State.event, if_pos ha, arbitrate_atReset hat]
  refine ⟨s.endReply, hexec, hat, ?_⟩
  rw [hu]
  refine ⟨by simp [State.softReset, Startup.reset], by simp [State.softReset, Link.reset, h1], by simp [State.softReset, h2],
    by simp [State.softReset, h3], by simp [State.softReset, h4], by simp [State.softReset, h5]⟩

end Sys2Proof.Machine

/-! ## The Notice Queue and the ends of transmissions (R155, R170, R179, R181, R185–R188) -/

namespace Sys2Proof.Machine

-- The proofs are checked one after another, so that their memory is not asked for at once.
set_option Elab.async false

/-! ### Producing a notice (R179) -/

theorem any_mergesWith_eq_false {k : NoticeKind} {src : Source} {xs : List Notice}
    (h : ∀ x ∈ xs, ¬(x.state = .new ∧ x.kind = k ∧ x.source = src)) : ∀ x ∈ xs, x.mergesWith k src = false :=
  fun x hx => Bool.eq_false_iff.mpr fun hm => h x hx (Notice.mergesWith_iff.mp hm)

/-- Settles O15: the branches of `Notices.produce`. -/
theorem noticeProduced : Obligations.NoticeProduced := by
  intro k src d q
  refine ⟨fun he => ?_, fun he => ⟨fun xs r ys hq hn hk hs hx => ?_, fun hx => ⟨fun hl => ?_, fun hl => ?_⟩⟩⟩
  · simp [Notices.produce, Notices.enabled, he]
  · have hr : r.mergesWith k src = true := Notice.mergesWith_iff.mpr ⟨hn, hk, hs⟩
    have hany : q.records.any (Notice.mergesWith k src) = true := List.any_eq_true.mpr ⟨r, by simp [hq], hr⟩
    have hmod := modifyFirst_append (ys := ys) (fun r : Notice => { r with count := satInc r.count, detail := d })
      (any_mergesWith_eq_false hx) hr
    rw [← hq] at hmod
    simp only [Notices.produce, Notices.enabled, he, Bool.not_true, Bool.false_eq_true, ite_false, hany, ite_true, hmod]
    rfl
  · have hany : q.records.any (Notice.mergesWith k src) = false := by simpa using any_mergesWith_eq_false hx
    simp [Notices.produce, Notices.enabled, he, hany, Config.maxNotices, hl]
  · have hany : q.records.any (Notice.mergesWith k src) = false := by simpa using any_mergesWith_eq_false hx
    simp [Notices.produce, Notices.enabled, he, hany, Config.maxNotices, Nat.not_lt.mpr hl, satInc]

/-! ### Events of a working part -/

theorem event_alive {s : State} (h : s.alive = true) (f : State → State) : s.event f = (f s).arbitrate := by
  simp [State.event, h]

theorem lineEvent_alive {s : State} (h : s.alive = true) (hb : s.link.breakHeld = false) (f : State → State) :
    s.lineEvent f = (f s).arbitrate := by
  simp [State.lineEvent, hb, event_alive h]

theorem State.listening_iff {s : State} :
    s.listening = true ↔ s.alive = true ∧ s.link.breakHeld = false ∧ s.link.receiver = .hunt := by
  simp [State.listening, and_assoc]

/-! ### Acknowledgement and expiry (R181, R186–R188) -/

theorem Notice.isSentAs_iff {n : Byte} {r : Notice} : r.isSentAs n = true ↔ r.state = .sent n := by simp [Notice.isSentAs]

theorem all_isSentAs_eq_false {n : Byte} {xs : List Notice} (h : ∀ x ∈ xs, x.state ≠ .sent n) :
    ∀ x ∈ xs, x.isSentAs n = false :=
  fun x hx => Bool.eq_false_iff.mpr fun hs => h x hx (Notice.isSentAs_iff.mp hs)

/-- A marked record, by its delivery state. -/
theorem Notice.mark_eq (r : Notice) : r.mark = { r with state := match r.state with
    | .new => .new
    | .sent k => .resend k
    | .resend k => .resend k } := by
  cases hs : r.state <;> simp [Notice.mark, hs] <;> simp [← hs]

/-- The queue after the acknowledgement of a SENT record, with the loss that is still to be reported. -/
theorem Notices.acknowledge_split {q : Notices} {n : Byte} {xs ys : List Notice} {r : Notice} (hq : q.records = xs ++ r :: ys)
    (hr : r.state = .sent n) (hx : ∀ x ∈ xs, x.state ≠ .sent n) : q.acknowledge n =
      ({ q with records := ys, timer := if ys.any Notice.isSent then .running 0 else .stopped } : Notices).reportLoss := by
  rw [Notices.acknowledge, hq, dropThrough_split (all_isSentAs_eq_false hx) (Notice.isSentAs_iff.mpr hr), timerFor]

/-- The event of a good acknowledgement frame. -/
theorem exec_acknowledgement {s : State} (hl : s.listening = true) (n : Byte) (body : List Byte) :
    exec (.noticeAcknowledgement n body) s =
      .next (State.arbitrate ((s.withFront s.link.tookFrame s.table).acknowledge n)) :=
  congrArg Host.Outcome.next (receive_listening hl ..)

/-- Settles O16: an acknowledgement of no SENT record, of a SENT record, and an expiry. -/
theorem acknowledgementAndExpiry : Obligations.AcknowledgementAndExpiry := by
  intro s
  refine ⟨fun n body hl => ⟨fun hnone => ?_, fun xs r ys hq hr hx => ?_⟩, fun e ha ht => ?_⟩
  · have hany : s.notices.records.any (Notice.isSentAs n) = false := by simpa using all_isSentAs_eq_false hnone
    rw [exec_acknowledgement hl]
    simp [State.acknowledge, hany, State.count, State.withFront, Link.tookFrame]
  · have hany : s.notices.records.any (Notice.isSentAs n) = true :=
      List.any_eq_true.mpr ⟨r, by simp [hq], Notice.isSentAs_iff.mpr hr⟩
    have hack : exec (.noticeAcknowledgement n body) s = .next (State.arbitrate { s with
        link := s.link.tookFrame
        notices := ({ s.notices with
          records := ys, timer := if ys.any Notice.isSent then .running 0 else .stopped } : Notices).reportLoss }) := by
      rw [exec_acknowledgement hl, ← Notices.acknowledge_split hq hr hx]
      simp [State.acknowledge, hany, State.withFront]
    exact ⟨fun ht => by rw [hack, Notices.reportLoss, if_pos ht], fun ht => by rw [hack, Notices.reportLoss, if_neg ht]; rfl⟩
  · show Host.Outcome.next (s.event State.expireTimer) = _
    have hmark : Notice.mark = _ := funext Notice.mark_eq
    rw [event_alive ha, State.expireTimer, ht]
    exact congrArg (fun f => Host.Outcome.next (State.arbitrate { s with
      notices := { s.notices with timer := .stopped, records := s.notices.records.map f } })) hmark

/-! ### The end of a transmission (R155, R170, R185) -/

/-- Settles O14: the ends that no transmission precedes, and those of a reply, a refusal record and a notice. -/
theorem transmissionEnds : Obligations.TransmissionEnds := by
  intro s bytes ha
  have hreply : exec .replyFrameEnd s = .next s.endReply.arbitrate := congrArg Host.Outcome.next (event_alive ha _)
  have hnotice : exec .noticeFrameEnd s = .next s.endNotice.arbitrate := congrArg Host.Outcome.next (event_alive ha _)
  rw [hreply, hnotice]
  refine ⟨fun h => ?_, fun h => ?_, fun tag code st data xs e ys htx hreset ht htag hcode hstate hx => ?_,
    fun tag code st htx => ?_, fun n htx => ?_⟩
  · cases htx : s.link.tx with
    | reply item more => exact absurd htx (h item more)
    | free | notice => simp [State.endReply, htx]
  · cases htx : s.link.tx with
    | notice n more => exact absurd htx (h n more)
    | free | reply => simp [State.endNotice, htx]
  · have hfirst : ∀ x ∈ xs, x.isSending tag code = false := fun x hm => by simpa [Pending.isSending, and_assoc] using hx x hm
    have he : e.isSending tag code = true := by simp [Pending.isSending, htag, hcode, hstate]
    have hno : (s.startup.resetPending && (LineItem.reply tag code st data).isResetReply) = false := by
      simpa only [LineItem.isResetReply, Bool.and_eq_false_iff, decide_eq_false_iff_not] using hreset
    simp [State.endReply, htx, hno, Table.afterReply, ht, eraseP_append_first hfirst he, State.count]
  · simp [State.endReply, htx, Table.afterReply, LineItem.isResetReply, State.count]
  · simp [State.endNotice, htx, State.count]

end Sys2Proof.Machine

/-! ## The link's faults, the generic checks, the arbiter's frames and the break (R143, R145–R156, R161–R166, R182–R184) -/

namespace Sys2Proof.Machine

-- The proofs are checked one after another, so that their memory is not asked for at once.
set_option Elab.async false

/-! ### Link faults (R145–R150) -/

theorem receiveLength_outside {s : State} (h : s.link.receiver ≠ .length) (v : Byte) :
    s.receiveLength v = State.takeBytes [0xB7, v] s := by
  unfold State.receiveLength
  split
  · next hr => exact absurd hr h
  · rfl

theorem rxByte_badLength {s : State} (hr : s.link.receiver = .length) {v : Byte} (hv : v.toNat < 2 ∨ 250 < v.toNat) :
    State.rxByte v s = onLengthError s.endFrame := by
  have hbad : goodLength v = false := by simp [goodLength]; omega
  simp [State.rxByte, hr, hbad]

theorem endFrame_of_hunt {s : State} (hr : s.link.receiver = .hunt) :
    s.endFrame = { s with link := { s.link with gap := .stopped } } := by
  simp [State.endFrame, State.setReceiver, ← hr]

theorem endFrame_endFrame (s : State) : s.endFrame.endFrame = s.endFrame := rfl

/-- A frame that begins in HUNT arrives whole. -/
theorem receive_of_hunt {s : State} (ha : s.alive = true) (hb : s.link.breakHeld = false) (hr : s.link.receiver = .hunt)
    (content : List Byte) (check : Half) (act : State → State) :
    s.receive content check act = (act s.endFrame).arbitrate :=
  receive_listening (State.listening_iff.mpr ⟨ha, hb, hr⟩) ..

/-- Settles O10: the four faults, and the stop bit. -/
theorem linkFaults : Obligations.LinkFaults := by
  intro s ha hb
  refine ⟨fun v hv => congrArg Host.Outcome.next (receiveLength_outside hv v),
    fun v k body content check hr => ⟨fun hv => ?_, fun hc => ?_, ?_⟩, fun hr => ?_, ?_⟩
  · have hbyte : exec (.lengthError v) { s with link := { s.link with receiver := .length } } =
        .next (State.arbitrate (State.rxByte v { s with link := { s.link with receiver := .length } })) :=
      congrArg Host.Outcome.next (lineEvent_alive (s := { s with link := { s.link with receiver := .length } }) ha hb _)
    rw [hbyte, rxByte_badLength rfl hv]
    refine congrArg (fun u : State => Host.Outcome.next u.arbitrate) ?_
    exact congrArg onLengthError (endFrame_of_hunt hr)
  · have hframe : exec (.checkError content check) s = .next (State.arbitrate (closeFrame content check s.endFrame)) :=
      congrArg Host.Outcome.next (receive_of_hunt ha hb hr ..)
    rw [hframe, closeFrame, if_neg hc, endFrame_endFrame, endFrame_of_hunt hr]
    rfl
  · have hframe : exec (.kindError k v body) s = .next (State.arbitrate (onKindError s.endFrame)) :=
      congrArg Host.Outcome.next (receive_of_hunt ha hb hr ..)
    rw [hframe, endFrame_of_hunt hr]
    rfl
  · have hgap : exec .gapError s = .next s.expireGap.arbitrate := congrArg Host.Outcome.next (event_alive ha _)
    rw [hgap, State.expireGap]
    split
    · next h => exact absurd h hr
    · rfl
  · exact congrArg Host.Outcome.next (lineEvent_alive ha hb _)

/-! ### The generic checks (R161–R166) -/

/-- A refusal, in the event of a good request frame. -/
theorem refuse_refusedFrame (s : State) (tag code : Byte) (st : Status) :
    ((s.withFront s.link.tookFrame s.table).refuse tag code st).arbitrate = s.refusedFrame tag code st := by
  unfold State.refuse State.refusedFrame
  have hused : (s.withFront s.link.tookFrame s.table).refusalsUsed = s.refusalsUsed := rfl
  rw [hused]
  split <;> rfl

/-- The event of a request frame of a code of the catalogue: the taking, by the code's row. -/
structure RequestRow (i : Instr) (code : Byte) where
  {α : Type}
  exempt : Bool
  body : Body α
  owner : α → State → Owned
  exec_eq : ∀ s : State, s.listening = true → exec i s =
    .next (takeRequest i.tag code exempt body owner (s.withFront s.link.tookFrame s.table)).arbitrate
  malformed_eq : malformedRequest i = malformedBody body
  exempt_iff : exempt = true ↔ code ∈ exemptCodes

theorem requestRow_of {i : Instr} {code : Byte} {α : Type} {exempt : Bool} {body : Body α} {owner : α → State → Owned}
    {content : List Byte} {check : Half} (hx : ∀ s : State, exec i s = .next (s.receive content check (dispatch i)))
    (hd : dispatch i = onRequest i.tag code exempt body owner) (hm : malformedRequest i = malformedBody body)
    (he : exempt = true ↔ code ∈ exemptCodes) : Nonempty (RequestRow i code) :=
  ⟨⟨exempt, body, owner, fun s hl => by rw [hx, receive_listening hl, hd]; rfl, hm, he⟩⟩

/-- Every request command has its row. -/
theorem requestRow_of_code {i : Instr} {code : Byte} (h : i.code? = some code) : Nonempty (RequestRow i code) := by
  cases i with
  | createSegment | writeSamples | sealSegment | deleteSegment | configureChannel | enqueue | start | stopImmediate
  | stopAtPassEnd | release | flush | setRate | runRates | haltRates | setInputs | defineTrigger | fire | save | load
  | erase | setLock | freeze | savePlan | clearPlan | cancel | reset | setNotices =>
    obtain rfl := Option.some.inj h
    exact requestRow_of (exempt := false) (fun _ => rfl) rfl rfl (by decide)
  | getSegment | getPool | getChannel | getRates | getTrigger | getInputs | getSlot | getStore | getPlan | abortPlan
  | getLink | getPart =>
    obtain rfl := Option.some.inj h
    exact requestRow_of (exempt := true) (fun _ => rfl) rfl rfl (by decide)
  | _ => cases h

/-- A request that fails a generic check is refused with the check's status. -/
theorem takeRequest_refused {α : Type} {tag code : Byte} {exempt : Bool} {f : α} {owner : α → State → Owned} {s : State}
    {st : Status} (h : genericCheck tag exempt s = some st) :
    takeRequest tag code exempt (.fields f) owner s = s.refuse tag code st := by
  simp [takeRequest, h]

/-- A request with a body of fields that fails a generic check on the part's state is refused by a record. -/
theorem RequestRow.refused {i : Instr} {code : Byte} (r : RequestRow i code) {s : State} (hl : s.listening = true)
    (hm : malformedRequest i = false) {st : Status}
    (hc : genericCheck i.tag r.exempt (s.withFront s.link.tookFrame s.table) = some st) :
    exec i s = .next (s.refusedFrame i.tag code st) := by
  rw [r.exec_eq s hl, ← refuse_refusedFrame]
  have hbody := r.malformed_eq.symm.trans hm
  cases hb : r.body with
  | fields f => rw [takeRequest_refused hc]
  | malformed bs => simp [hb, malformedBody] at hbody

theorem RequestRow.badFormat {i : Instr} {code : Byte} (r : RequestRow i code) {s : State} (hl : s.listening = true)
    (hm : malformedRequest i = true) : exec i s = .next (s.refusedFrame i.tag code .badFormat) := by
  rw [r.exec_eq s hl, ← refuse_refusedFrame]
  have hbody := r.malformed_eq.symm.trans hm
  cases hb : r.body with
  | fields f => simp [hb, malformedBody] at hbody
  | malformed bs => rfl

theorem genericCheck_tagInUse {s : State} {tag : Byte} (exempt : Bool)
    (h : ∃ e ∈ s.table.entries, e.tag = tag ∧ e.orphaned = false) : genericCheck tag exempt s = some .tagInUse := by
  have hany : s.table.entries.any (Pending.holds tag) = true := by simpa [Pending.holds] using h
  simp [genericCheck, hany]

theorem any_holds_eq_false {s : State} {tag : Byte} (h : ∀ e ∈ s.table.entries, e.tag = tag → e.orphaned = true) :
    s.table.entries.any (Pending.holds tag) = false := by
  simpa [Pending.holds] using h

/-- Settles O12: the checks in their order, and the frames whose code is none of the catalogue. -/
theorem genericChecksRefuse : Obligations.GenericChecksRefuse := by
  intro i s hl
  refine ⟨fun code hc => ?_, fun tag hi => ?_, fun tag code rest hi => ?_⟩
  · obtain ⟨r⟩ := requestRow_of_code hc
    refine ⟨fun hm => r.badFormat hl hm, fun hm => ⟨fun hex => ?_, fun hall => ⟨fun hfull => ?_, fun hfree hph hne => ?_⟩⟩⟩
    · exact r.refused hl hm (genericCheck_tagInUse _ hex)
    · refine r.refused hl hm ?_
      simp [genericCheck, any_holds_eq_false hall, Config.maxEntries, hfull]
    · refine r.refused hl hm ?_
      have hx : r.exempt = false := Bool.eq_false_iff.mpr fun h => hne (r.exempt_iff.mp h)
      simp [genericCheck, any_holds_eq_false hall, Config.maxEntries, Nat.not_le.mpr hfree, hx, State.isStarting, hph]
  · subst hi
    rw [← refuse_refusedFrame]
    exact congrArg Host.Outcome.next (receive_listening hl ..)
  · subst hi
    rw [← refuse_refusedFrame]
    exact congrArg Host.Outcome.next (receive_listening hl ..)

end Sys2Proof.Machine

/-! ## What the arbiter sends, and the break (R143, R151–R156, R182–R184) -/

namespace Sys2Proof.Machine

-- The proofs are checked one after another, so that their memory is not asked for at once.
set_option Elab.async false

/-! ### The bytes of a frame (R143, R156, R173, R182) -/

/-- A frame's bytes with its check written as the remainder of its bits. -/
theorem frame_bits (content : List Byte) : frame content =
    (0xB7 : Byte) :: (((BitVec.ofNat 8 content.length : Byte) :: content) ++
      [loByte ((((BitVec.ofNat 8 content.length : Byte) :: content).flatMap msbFirst).foldl crc16Step 0xFFFF),
       hiByte ((((BitVec.ofNat 8 content.length : Byte) :: content).flatMap msbFirst).foldl crc16Step 0xFFFF)]) := by
  rw [frame, frameWith, frameCheck, crc16_bits]
  rfl

theorem Status.code_eq (st : Status) : st.code = BitVec.ofNat 8 ([Status.ok, .badFormat, .unknownRequest, .tagInUse, .tableFull,
    .starting, .range, .channelRunning, .alreadyRunning, .queueFull, .nothingToRelease, .noSuchSegment, .idInUse, .mapFull,
    .poolFull, .segmentState, .segmentBusy, .outOfOrder, .retiring, .triggerOff, .jobsFull, .slotBusy, .slotNotBlank,
    .slotEmpty, .slotLocked, .slotFrozen, .slotWorn, .checkFailed, .cancelled, .noSuchJob, .notCancellable, .planInvalid,
    .notStarting].idxOf st) := by
  cases st <;> decide

theorem NoticeKind.num_eq (k : NoticeKind) : k.num = [NoticeKind.entryDone, .drained, .starved, .entrySkipped, .triggerFired,
    .segmentFreed, .linkFault, .started, .lost].idxOf k + 1 := by
  cases k <;> decide

theorem u16_toNat (h : Half) : u16 h.toNat = [h.setWidth 8, (h >>> 8).setWidth 8] := by
  simp only [u16, List.cons.injEq, and_true]
  refine ⟨?_, ?_⟩
  · apply BitVec.eq_of_toNat_eq; simp
  · apply BitVec.eq_of_toNat_eq; simp [Nat.shiftRight_eq_div_pow]

theorem Source.bytes_eq (src : Source) : src.bytes = match src with
    | .part => [0, 0]
    | .link => [1, 0]
    | .channel c => [2, BitVec.ofNat 8 c.val]
    | .trigger k => [3, BitVec.ofNat 8 k.val]
    | .segment id => [4, id] := by
  cases src <;> rfl

/-- The body of a notice, byte by byte. -/
theorem Notice.body_eq (r : Notice) : r.body = BitVec.ofNat 8 r.kind.num :: r.count.setWidth 8 :: (r.count >>> 8).setWidth 8 ::
    (r.source.bytes ++ r.detail) := by
  simp [Notice.body, u16_toNat, u8]

/-! ### What the queue offers (R183) -/

theorem Notices.offer_resend {q : Notices} {r : Notice} (hw : q.window ≠ 0) (hr : q.records.find? Notice.isResend = some r) :
    q.offer = some r := by
  simp [Notices.offer, hw, hr]

theorem Notices.offer_new {q : Notices} (hw : q.window ≠ 0) (hr : q.records.find? Notice.isResend = none)
    (hc : q.records.countP Notice.isSent < q.window) : q.offer = q.records.find? Notice.isNew := by
  simp [Notices.offer, hw, hr, hc]

theorem all_isResend_eq_false {xs : List Notice} (h : ∀ x ∈ xs, ∀ k, x.state ≠ .resend k) : ∀ x ∈ xs, x.isResend = false :=
  fun x hx => Bool.eq_false_iff.mpr fun hr => (Notice.isResend_iff.mp hr).elim fun k hk => h x hx k hk

theorem all_isNew_eq_false {xs : List Notice} (h : ∀ x ∈ xs, x.state ≠ .new) : ∀ x ∈ xs, x.isNew = false :=
  fun x hx => Bool.eq_false_iff.mpr fun hn => h x hx (Notice.isNew_iff.mp hn)

theorem find?_isResend_eq_none {xs : List Notice} (h : ∀ x ∈ xs, ∀ k, x.state ≠ .resend k) : xs.find? Notice.isResend = none :=
  List.find?_eq_none.mpr fun x hx => by simp [all_isResend_eq_false h x hx]

theorem find?_isNew_eq_none {xs : List Notice} (h : ∀ x ∈ xs, x.state ≠ .new) : xs.find? Notice.isNew = none :=
  List.find?_eq_none.mpr fun x hx => by simp [all_isNew_eq_false h x hx]

/-! ### The arbiter (R154, R155, R170, R184) -/

theorem arbitrate_busy {s : State} (h : s.link.tx ≠ .free) : s.arbitrate = s := by
  unfold State.arbitrate
  split
  · next hf => exact absurd hf h
  · rfl

theorem arbitrate_idle {s : State} (hf : s.link.tx = .free) (hl : s.table.line = []) (ho : s.notices.offer = none) :
    s.arbitrate = s := by
  simp [State.arbitrate, hf, hl, ho]

theorem arbitrate_reply {s : State} {item : LineItem} {rest : List LineItem} (hf : s.link.tx = .free)
    (hl : s.table.line = item :: rest) : s.arbitrate = s.beginReply item rest := by
  simp [State.arbitrate, hf, hl]

theorem arbitrate_notice {s : State} {r : Notice} (hf : s.link.tx = .free) (hl : s.table.line = [])
    (ho : s.notices.offer = some r) : s.arbitrate = s.beginNotice r := by
  simp [State.arbitrate, hf, hl, ho]

theorem beginNotice_new {s : State} {r : Notice} (h : r.state = .new) : s.beginNotice r =
    { s with
      link := { s.link with tx := .notice s.notices.nextSeq (frame (kindNotice :: s.notices.nextSeq :: r.body)) }
      notices := { s.notices with
        records := modifyFirst Notice.isNew (fun x => { x with state := .sent s.notices.nextSeq }) s.notices.records
        nextSeq := s.notices.nextSeq + 1
        timer := if s.notices.timer = .stopped then .running 0 else s.notices.timer } } := by
  rw [State.beginNotice, h]
  cases ht : s.notices.timer <;> rfl

theorem beginNotice_resend {s : State} {r : Notice} {n : Byte} (h : r.state = .resend n) : s.beginNotice r =
    { s with
      link := { s.link with tx := .notice n (frame (kindNotice :: n :: r.body)) }
      notices := { s.notices with
        records := modifyFirst Notice.isResend (fun x => { x with state := .sent n }) s.notices.records
        timer := .running 0 } } := by
  rw [State.beginNotice, h]

/-- Settles O13: the offers, then the arbiter's choices; `frame_bits` gives the bytes. -/
theorem arbiterChoosesTheFrame : Obligations.ArbiterChoosesTheFrame := by
  unfold Obligations.ArbiterChoosesTheFrame
  intro sent status reply notice
  have hsent : ∀ content, sent content = frame content := fun content => (frame_bits content).symm
  have hstatus : ∀ st, status st = st.code := fun st => (Status.code_eq st).symm
  have hreply : ∀ item, reply item = item.content := by
    intro item
    cases item with
    | reply tag code st data => exact congrArg (fun c => (0x52 : Byte) :: tag :: code :: c :: data) (hstatus st)
    | refusal tag code st => exact congrArg (fun c => [(0x52 : Byte), tag, code, c]) (hstatus st)
  have hnotice : ∀ n r, notice n r = kindNotice :: n :: r.body := by
    intro n r
    rw [Notice.body_eq, Source.bytes_eq, NoticeKind.num_eq]
    rfl
  refine ⟨fun q => ⟨fun hw => by simp [Notices.offer, hw], fun xs ys r n hw hq hr hx => ?_, fun hnone => ⟨fun hc => ?_,
    fun hnew => ?_, fun xs ys r hc hq hr hx => ?_⟩⟩, fun s => ⟨arbitrate_busy, arbitrate_idle, fun item rest hf hl => ?_,
    fun xs ys r hf hl ho hq => ⟨fun hn hx => ?_, fun n hn hx => ?_⟩⟩⟩
  · refine Notices.offer_resend hw ?_
    rw [hq]
    exact find?_append_first (all_isResend_eq_false hx) (Notice.isResend_iff.mpr ⟨n, hr⟩)
  · simp [Notices.offer, find?_isResend_eq_none hnone, Nat.not_lt.mpr hc]
  · simp [Notices.offer, find?_isResend_eq_none hnone, find?_isNew_eq_none hnew]
  · rw [Notices.offer_new (by omega) (find?_isResend_eq_none hnone) hc, hq]
    exact find?_append_first (all_isNew_eq_false hx) (Notice.isNew_iff.mpr hr)
  · rw [hsent, hreply, arbitrate_reply hf hl]
    refine ⟨_, rfl, rfl, fun tag code st hi => by subst hi; rfl, fun tag code st data hi xs e ys hq ht ho hx => ?_⟩
    subst hi
    have hfirst : ∀ x ∈ xs, x.holds tag = false := fun x hm => by simpa [Pending.holds] using hx x hm
    have he : e.holds tag = true := by simp [Pending.holds, ht, ho]
    show modifyFirst (Pending.holds tag) _ s.table.entries = _
    rw [hq, modifyFirst_append _ hfirst he]
  · rw [hsent, hnotice, arbitrate_notice hf hl ho, beginNotice_new hn, hq,
      modifyFirst_append _ (all_isNew_eq_false hx) (Notice.isNew_iff.mpr hn)]
  · rw [hsent, hnotice, arbitrate_notice hf hl ho, beginNotice_resend hn, hq,
      modifyFirst_append _ (all_isResend_eq_false hx) (Notice.isResend_iff.mpr ⟨n, hn⟩)]

/-! ### The break (R151–R153) -/

theorem JobOrigin.orphan_eq (o : JobOrigin) : o.orphan = match o with
    | .request tag _ => .request tag true
    | .plan => .plan := by
  cases o <;> rfl

theorem LineItem.isResetReply_iff {item : LineItem} : item.isResetReply = true ↔ ∃ tag data, item = .reply tag 0x70 .ok data := by
  cases item <;> simp [LineItem.isResetReply]

theorem Transmitter.sendsReset_iff {x : Transmitter} :
    x.sendsReset = true ↔ ∃ tag data bytes, x = .reply (.reply tag 0x70 .ok data) bytes := by
  cases x with
  | free | notice => simp [Transmitter.sendsReset]
  | reply item bytes => simp [Transmitter.sendsReset, LineItem.isResetReply_iff]

theorem any_isResetReply_iff {line : List LineItem} :
    line.any LineItem.isResetReply = true ↔ ∃ tag data, .reply tag 0x70 .ok data ∈ line := by
  rw [List.any_eq_true]
  constructor
  · rintro ⟨item, hm, hi⟩
    obtain ⟨tag, data, rfl⟩ := LineItem.isResetReply_iff.mp hi
    exact ⟨tag, data, hm⟩
  · rintro ⟨tag, data, hm⟩
    exact ⟨_, hm, LineItem.isResetReply_iff.mpr ⟨tag, data, rfl⟩⟩

theorem State.breakResets_iff {s : State} : s.breakResets = true ↔ s.startup.resetPending = true ∧
    (∃ tag data, .reply tag 0x70 .ok data ∈ s.table.line) ∧
    ¬∃ tag data bytes, s.link.tx = .reply (.reply tag 0x70 .ok data) bytes := by
  rw [← any_isResetReply_iff, ← Transmitter.sendsReset_iff]
  simp [State.breakResets, and_assoc]

/-- The event of a break which the detector takes. -/
theorem exec_lineBreak {s : State} (ha : s.alive = true) (hb : s.link.breakHeld = false) : exec .lineBreak s =
    .next (if s.breakResets = true then s.breakLink.softReset else s.breakLink).arbitrate := by
  have h : exec .lineBreak s = .next s.takeBreak.arbitrate := congrArg Host.Outcome.next (event_alive ha _)
  rw [h, State.takeBreak, if_neg (by simp [hb])]

theorem Table.afterBreak_eq (t : Table) : t.afterBreak =
    { entries := (t.entries.filter (fun e => decide (e.state ≠ .queued))).map
        (fun e => if e.state = .sending then e else { e with orphaned := true })
      line := [] } := by
  have hq : (fun e : Pending => !e.isQueued) = fun e => decide (e.state ≠ .queued) := by
    funext e
    simp [Pending.isQueued]
  rw [Table.afterBreak, hq]
  rfl

/-- Settles O11: the link's reset, and the SOFT reset where the break discards a pending RESET's reply. -/
theorem breakResetsTheLink : Obligations.BreakResetsTheLink := by
  intro s ha
  refine ⟨fun hb => ?_, congrArg Host.Outcome.next (event_alive ha _), ?_⟩
  · have h : exec .lineBreak s = .next s.takeBreak.arbitrate := congrArg Host.Outcome.next (event_alive ha _)
    rw [h, State.takeBreak, if_pos hb]
  intro hb n u
  refine ⟨fun hno => ?_, fun tag data hp hm hx => ?_⟩
  · have hu : s.breakLink = u := by
      have hmark : Notice.mark = _ := funext Notice.mark_eq
      have horphan : Job.orphan = _ := funext fun j => congrArg (fun o => { j with origin := o }) (JobOrigin.orphan_eq j.origin)
      simp only [State.breakLink, Notices.markAll, hmark, horphan, Table.afterBreak_eq]
      rfl
    have hres : s.breakResets = false := by
      refine Bool.eq_false_iff.mpr fun h => ?_
      obtain ⟨hp, ⟨tag, data, hm⟩, htx⟩ := State.breakResets_iff.mp h
      rcases hno with hno | hno | hno
      · simp [hp] at hno
      · exact hno tag data hm
      · exact htx hno
    rw [exec_lineBreak ha hb, if_neg (by simp [hres]), hu]
  · have hres : s.breakResets = true := State.breakResets_iff.mpr ⟨hp, ⟨tag, data, hm⟩, fun ⟨o, m, b, h⟩ => hx o m b h⟩
    have hat : s.breakLink.softReset.atReset := State.atReset_takeReset _ _ _
    refine ⟨s.breakLink.softReset, ?_, hat, ?_⟩
    · rw [exec_lineBreak ha hb, if_pos hres, arbitrate_atReset hat]
    · simp [State.softReset, Startup.reset, Link.reset, State.breakLink, State.linkFault, State.notify, State.count]

end Sys2Proof.Machine

/-! ## Writing and reading agree (R143, R162, R173–R175) -/

namespace Sys2Proof.Machine

-- The proofs are checked one after another, so that their memory is not asked for at once.
set_option Elab.async false

/-! ### Words -/

theorem half_of_toNat (h : Half) : half (BitVec.ofNat 8 h.toNat) (BitVec.ofNat 8 (h.toNat / 256)) = h := by
  apply BitVec.eq_of_toNat_eq
  have := h.isLt
  simp only [half, BitVec.toNat_ofNat]
  omega

theorem word_of_toNat (x : Word) : word (BitVec.ofNat 8 x.toNat) (BitVec.ofNat 8 (x.toNat / 256))
    (BitVec.ofNat 8 (x.toNat / 65536)) (BitVec.ofNat 8 (x.toNat / 16777216)) = x := by
  apply BitVec.eq_of_toNat_eq
  have := x.isLt
  simp only [word, BitVec.toNat_ofNat]
  omega

theorem half_setWidth (h : Half) : half (h.setWidth 8) (BitVec.ofNat 8 (h.toNat / 256)) = h := by
  rw [← BitVec.ofNat_toNat, half_of_toNat]

theorem word_setWidth (x : Word) : word (x.setWidth 8) (BitVec.ofNat 8 (x.toNat / 256)) (BitVec.ofNat 8 (x.toNat / 65536))
    (BitVec.ofNat 8 (x.toNat / 16777216)) = x := by
  rw [← BitVec.ofNat_toNat, word_of_toNat]

/-! ### Marks, samples and plan steps -/

theorem readMarks_rawMarksBytes (ms : List RawMark) : readMarks ms.length (rawMarksBytes ms) = some ms := by
  induction ms with
  | nil => rfl
  | cons m ms ih =>
    simp only [List.length_cons, rawMarksBytes, RawMark.bytes, halfBytes, u16, List.cons_append, List.nil_append, readMarks, ih,
      half_of_toNat]

theorem readMarks_length {n : Nat} {bs : List Byte} {ms : List RawMark} (h : readMarks n bs = some ms) : bs.length = 4 * n := by
  induction n generalizing bs ms with
  | zero =>
    cases bs with
    | nil => rfl
    | cons b bs => simp [readMarks] at h
  | succ n ih =>
    unfold readMarks at h
    split at h
    · next heq => exact absurd heq (by simp)
    · next k lo hi la f rest heq =>
      obtain rfl : n = k := by simpa using heq
      split at h
      · next ms' hms => simp only [List.length_cons, ih hms]; omega
      · cases h
    · cases h

theorem readSamples_samplesBytes (xs : List Sample) : readSamples (samplesBytes xs) = some xs := by
  induction xs with
  | nil => rfl
  | cons x xs ih =>
    simp only [samplesBytes, halfBytes, u16, List.cons_append, List.nil_append, readSamples, ih, half_of_toNat]

theorem readSamples_length {bs : List Byte} {xs : List Sample} (h : readSamples bs = some xs) : bs.length = 2 * xs.length := by
  induction bs using readSamples.induct generalizing xs with
  | case1 =>
    obtain rfl : [] = xs := by simpa [readSamples] using h
    rfl
  | case2 lo hi rest ys hys ih =>
    obtain rfl : half lo hi :: ys = xs := by simpa [readSamples, hys] using h
    simp only [List.length_cons, ih hys]; omega
  | case3 lo hi rest hn ih => simp [readSamples, hn] at h
  | case4 b => simp [readSamples] at h

/-- A step's bytes are its code and the bytes that `readStep` reads it from. -/
theorem readStep_bytes (p : PlanStep) (r : List Byte) :
    ∃ c bs, p.bytes ++ r = c :: bs ∧ isStepCode c = true ∧ readStep c bs = some (p, r) := by
  cases p with
  | load f => exact ⟨_, _, rfl, by decide, rfl⟩
  | config f =>
    refine ⟨_, _, rfl, by decide, ?_⟩
    simp [readStep, ConfigFields.bytes, halfBytes, u16, half_setWidth]
  | rate f =>
    refine ⟨_, _, rfl, by decide, ?_⟩
    simp [readStep, RateFields.bytes, u32, word_setWidth]
  | inputs f =>
    refine ⟨_, _, rfl, by decide, ?_⟩
    simp [readStep, InputsFields.bytes, halfBytes, u16, half_setWidth]
  | trigger f => exact ⟨_, _, rfl, by decide, rfl⟩
  | enqueue f =>
    refine ⟨_, _, rfl, by decide, ?_⟩
    simp [readStep, EnqueueFields.bytes, halfBytes, u16, half_setWidth]
  | run m => exact ⟨_, _, rfl, by decide, rfl⟩
  | start m => exact ⟨_, _, rfl, by decide, rfl⟩

theorem isStepCode_eq (c : Byte) : isStepCode c = (stepSize c).isSome := by
  have h : ∀ c : Byte, isStepCode c = (stepSize c).isSome := by decide +kernel
  exact h c

theorem readStep_size {c : Byte} {bs r : List Byte} {p : PlanStep} (h : readStep c bs = some (p, r)) :
    ∃ k, stepSize c = some k ∧ k ≤ bs.length ∧ r = bs.drop k := by
  unfold readStep at h
  unfold stepSize
  split at h
  case h_9 => cases h
  all_goals
    next hc =>
    simp only [Option.some.injEq, Prod.mk.injEq] at h
    simp [hc, h.2]

/-- Steps read back, up to the end of the body or to a code outside the eight. -/
theorem readSteps_stepsBytes {n : Nat} {steps : List PlanStep} {rest : List Byte}
    (h : (rest = [] ∧ steps.length = n) ∨ (∃ c cs, rest = c :: cs ∧ steps.length < n ∧ stepSize c = none)) :
    readSteps n (stepsBytes steps ++ rest) = some (steps, rest) := by
  induction steps generalizing n with
  | nil =>
    rcases h with ⟨rfl, rfl⟩ | ⟨c, cs, rfl, hn, hc⟩
    · rfl
    · obtain ⟨m, rfl⟩ : ∃ m, n = m + 1 := ⟨n - 1, by simp at hn; omega⟩
      simp [stepsBytes, readSteps, isStepCode_eq, hc]
  | cons p ps ih =>
    obtain ⟨m, rfl⟩ : ∃ m, n = m + 1 := ⟨n - 1, by rcases h with ⟨-, h⟩ | ⟨-, -, -, h, -⟩ <;> simp at h <;> omega⟩
    obtain ⟨c, bs, hb, hcode, hread⟩ := readStep_bytes p (stepsBytes ps ++ rest)
    have hps : readSteps m (stepsBytes ps ++ rest) = some (ps, rest) := by
      refine ih ?_
      rcases h with ⟨hr, hn⟩ | ⟨c, cs, hr, hn, hc⟩
      · exact .inl ⟨hr, by simpa using hn⟩
      · exact .inr ⟨c, cs, hr, by simpa using hn, hc⟩
    rw [stepsBytes, List.append_assoc, hb]
    simp [readSteps, hcode, hread, hps]

/-- Where the bytes do not have the length their step codes give, no steps are read. -/
theorem readSteps_none {n : Nat} {bs : List Byte} (h : stepsFit n bs = false) : readSteps n bs = none := by
  induction n generalizing bs with
  | zero =>
    cases bs with
    | nil => simp [stepsFit] at h
    | cons b bs => rfl
  | succ n ih =>
    cases bs with
    | nil => rfl
    | cons c bs =>
      cases hk : stepSize c with
      | none => simp [stepsFit, hk] at h
      | some k =>
        cases hr : readStep c bs with
        | none => simp [readSteps, isStepCode_eq, hk, hr]
        | some x =>
          obtain ⟨p, r⟩ := x
          obtain ⟨k', hk', hle, rfl⟩ := readStep_size hr
          obtain rfl : k = k' := Option.some.inj (hk.symm.trans hk')
          have hrest : readSteps n (bs.drop k) = none := ih (by simpa [stepsFit, hk, hle] using h)
          simp [readSteps, isStepCode_eq, hk, hr, hrest]

/-! ### Bodies -/

/-- A well-formed body is read from its bytes: fields by their layout, malformed bytes by their length (R162). -/
theorem read_bytes {α : Type} {code : Byte} {ok : α → Bool} {f : α → List Byte} (read : List Byte → Body α) {b : Body α}
    (w : b.wellFormed code ok = true) (hm : ∀ bs, bodyFits code bs = false → read bs = .malformed bs)
    (hf : ∀ x, ok x = true → read (f x) = .fields x) : read (b.bytes f) = b := by
  cases b with
  | fields x => exact hf x w
  | malformed bs =>
    simp only [Body.wellFormed, Bool.and_eq_true, Bool.not_eq_true'] at w
    exact hm bs w.2

theorem readNone_malformed (bs : List Byte) (h : (bs.length == 0) = false) : readNone bs = .malformed bs := by
  cases bs with
  | nil => simp at h
  | cons b bs => rfl

theorem readByte_malformed (bs : List Byte) (h : (bs.length == 1) = false) : Sys2Proof.readByte bs = .malformed bs := by
  unfold Sys2Proof.readByte
  split
  · simp at h
  · rfl

theorem readGetSegment_malformed (bs : List Byte) (h : (bs.length == 2) = false) : readGetSegment bs = .malformed bs := by
  unfold readGetSegment
  split
  · simp at h
  · rfl

theorem readConfig_malformed (bs : List Byte) (h : (bs.length == 4) = false) : readConfig bs = .malformed bs := by
  unfold readConfig
  split
  · simp at h
  · rfl

theorem readEnqueue_malformed (bs : List Byte) (h : (bs.length == 8) = false) : readEnqueue bs = .malformed bs := by
  unfold readEnqueue
  split
  · simp at h
  · rfl

theorem readRate_malformed (bs : List Byte) (h : (bs.length == 5) = false) : readRate bs = .malformed bs := by
  unfold readRate
  split
  · simp at h
  · rfl

theorem readInputs_malformed (bs : List Byte) (h : (bs.length == 3) = false) : readInputs bs = .malformed bs := by
  unfold readInputs
  split
  · simp at h
  · rfl

theorem readTrigger_malformed (bs : List Byte) (h : (bs.length == 7) = false) : readTrigger bs = .malformed bs := by
  unfold readTrigger
  split
  · simp at h
  · rfl

theorem readSave_malformed (bs : List Byte) (h : decide (2 ≤ bs.length) = false) : readSave bs = .malformed bs := by
  unfold readSave
  split
  · simp at h
  · rfl

theorem readLoad_malformed (bs : List Byte) (h : (bs.length == 2) = false) : readLoad bs = .malformed bs := by
  unfold readLoad
  split
  · simp at h
  · rfl

theorem readLock_malformed (bs : List Byte) (h : (bs.length == 2) = false) : readLock bs = .malformed bs := by
  unfold readLock
  split
  · simp at h
  · rfl

theorem readFirst_malformed (bs : List Byte) (h : decide (bs.length ≤ 1) = false) : readFirst bs = .malformed bs := by
  unfold readFirst
  split
  · simp at h
  · simp at h
  · rfl

theorem readNotices_malformed (bs : List Byte) (h : (bs.length == 3) = false) : readNotices bs = .malformed bs := by
  unfold readNotices
  split
  · simp at h
  · rfl

theorem readStop_malformed (tag : Byte) (bs : List Byte) (h : (bs.length == 2) = false) :
    readStop tag bs = .stopImmediate tag (.malformed bs) := by
  unfold readStop
  split
  · simp at h
  · rfl

theorem readCreate_malformed (bs : List Byte) (h : bodyFits 0x10 bs = false) : readCreate bs = .malformed bs := by
  unfold readCreate
  split
  · next id lo hi n ms =>
    split
    · next marks hms =>
      have hlen := readMarks_length hms
      simp [bodyFits, hlen] at h
      omega
    · rfl
  · rfl

theorem readWrite_malformed (bs : List Byte) (h : bodyFits 0x11 bs = false) : readWrite bs = .malformed bs := by
  unfold readWrite
  split
  · next id lo hi xs =>
    split
    · next samples hxs =>
      refine if_neg fun hn => ?_
      have hlen := readSamples_length hxs
      simp [bodyFits, hlen, Config.maxWrite] at h hn
      omega
    · rfl
  · rfl

theorem readPlan_malformed (bs : List Byte) (h : bodyFits 0x65 bs = false) : readPlan bs = .malformed bs := by
  unfold readPlan
  split
  · next runOn count xs =>
    have hn : readSteps count.toNat xs = none := readSteps_none (by simpa [bodyFits] using h)
    simp [hn]
  · rfl

theorem readCreate_bytes (f : CreateFields) (h : f.ok = true) : readCreate f.bytes = .fields f := by
  have hlen : (BitVec.ofNat 8 f.marks.length).toNat = f.marks.length := by
    have : 5 + 4 * f.marks.length ≤ 248 := of_decide_eq_true h
    simp only [BitVec.toNat_ofNat]
    omega
  simp [CreateFields.bytes, halfBytes, u16, u8, readCreate, hlen, readMarks_rawMarksBytes, half_setWidth]

theorem readWrite_bytes (f : WriteFields) (h : f.ok = true) : readWrite f.bytes = .fields f := by
  have hn : 1 ≤ f.samples.length ∧ f.samples.length ≤ Config.maxWrite := by simpa [WriteFields.ok] using h
  simp [WriteFields.bytes, halfBytes, u16, readWrite, readSamples_samplesBytes, half_setWidth, hn]

theorem readPlan_bytes (f : PlanFields) (h : f.ok = true) : readPlan f.bytes = .fields f := by
  have hs : readSteps f.count.toNat (stepsBytes f.steps ++ f.rest) = some (f.steps, f.rest) := by
    refine readSteps_stepsBytes ?_
    simp only [PlanFields.ok, Bool.and_eq_true] at h
    cases hr : f.rest with
    | nil => exact .inl ⟨rfl, by simpa [hr] using h.2⟩
    | cons c cs => exact .inr ⟨c, cs, rfl, by simpa [hr] using h.2⟩
  simp [PlanFields.bytes, readPlan, hs]

/-! ### Frames -/

theorem decodeFrame_request {tag code : Byte} {bs : List Byte} {i : Instr} (h : decodeCode tag code bs = some i) :
    decodeFrame (kindRequest :: tag :: code :: bs) = some i := by
  simp [decodeFrame, decodeRequest, h]

/-- A code outside the catalogue has no row. -/
theorem decodeCode_none {tag code : Byte} {bs : List Byte} (h : catalogue.contains code = false) : decodeCode tag code bs = none := by
  have hne : ∀ n ∈ catalogue.map BitVec.toNat, code.toNat ≠ n := by
    intro n hn e
    obtain ⟨c, hc, rfl⟩ := List.mem_map.mp hn
    obtain rfl := BitVec.eq_of_toNat_eq e
    exact Bool.noConfusion (h.symm.trans (List.contains_iff_mem.mpr hc))
  unfold decodeCode
  split
  case h_39 => rfl
  all_goals next hc => exact absurd hc (hne _ (by decide))

end Sys2Proof.Machine

/-! ## Frames read back, and the receiver's table (R143–R148) -/

namespace Sys2Proof.Machine

-- The proofs are checked one after another, so that their memory is not asked for at once.
set_option Elab.async false

/-- A request command is read back where its row reads its body back. -/
theorem decodeFrame_content {i : Instr} {code : Byte} {c : List Byte}
    (hc : i.content? = some (kindRequest :: i.tag :: code :: i.bodyBytes))
    (hd : decodeCode i.tag code i.bodyBytes = some i) (h : i.content? = some c) : decodeFrame c = some i := by
  obtain rfl := Option.some.inj (hc.symm.trans h)
  exact decodeFrame_request hd

/-- The body of one byte, of no byte. -/
theorem readByte_bytes {code : Byte} (hfits : ∀ bs, bodyFits code bs = (bs.length == 1)) {b : Body Byte}
    (w : b.wellFormed code (fun _ => true) = true) : Sys2Proof.readByte (b.bytes (fun x => [x])) = b :=
  read_bytes Sys2Proof.readByte w (fun bs h => readByte_malformed bs (hfits bs ▸ h)) (fun _ _ => rfl)

theorem readNone_bytes {code : Byte} (hfits : ∀ bs, bodyFits code bs = (bs.length == 0)) {b : Body Unit}
    (w : b.wellFormed code (fun _ => true) = true) : readNone (b.bytes (fun _ => [])) = b :=
  read_bytes readNone w (fun bs h => readNone_malformed bs (hfits bs ▸ h)) (fun _ _ => rfl)

/-- Settles O7: row by row, the reader of a body undoes its layout. -/
theorem framesReadBack : Obligations.FramesReadBack := by
  intro i c w h
  cases i with
  | createSegment t b =>
    exact decodeFrame_content rfl (congrArg (fun b => some (Instr.createSegment t b))
      (read_bytes readCreate w readCreate_malformed readCreate_bytes)) h
  | writeSamples t b =>
    exact decodeFrame_content rfl (congrArg (fun b => some (Instr.writeSamples t b))
      (read_bytes readWrite w readWrite_malformed readWrite_bytes)) h
  | sealSegment t b =>
    exact decodeFrame_content rfl (congrArg (fun b => some (Instr.sealSegment t b)) (readByte_bytes (fun _ => rfl) w)) h
  | deleteSegment t b =>
    exact decodeFrame_content rfl (congrArg (fun b => some (Instr.deleteSegment t b)) (readByte_bytes (fun _ => rfl) w)) h
  | getSegment t b =>
    exact decodeFrame_content rfl (congrArg (fun b => some (Instr.getSegment t b))
      (read_bytes readGetSegment w readGetSegment_malformed (fun _ _ => rfl))) h
  | getPool t b =>
    exact decodeFrame_content rfl (congrArg (fun b => some (Instr.getPool t b)) (readNone_bytes (fun _ => rfl) w)) h
  | configureChannel t b =>
    refine decodeFrame_content rfl (congrArg (fun b => some (Instr.configureChannel t b))
      (read_bytes readConfig w readConfig_malformed (fun f _ => ?_))) h
    simp [ConfigFields.bytes, halfBytes, u16, readConfig, half_setWidth]
  | enqueue t b =>
    refine decodeFrame_content rfl (congrArg (fun b => some (Instr.enqueue t b))
      (read_bytes readEnqueue w readEnqueue_malformed (fun f _ => ?_))) h
    simp [EnqueueFields.bytes, halfBytes, u16, readEnqueue, half_setWidth]
  | start t r =>
    obtain ⟨b, course⟩ := r
    cases course with
    | cons p ps => cases h
    | nil =>
      exact decodeFrame_content rfl (congrArg (fun b => some (Instr.start t ⟨b, []⟩)) (readByte_bytes (fun _ => rfl) w)) h
  | stopImmediate t b =>
    refine decodeFrame_content rfl ?_ h
    cases b with
    | fields f =>
      have hmode : f.mode ≠ 1 := of_decide_eq_true w
      exact congrArg some (if_neg hmode)
    | malformed bs =>
      simp only [Instr.wellFormed, Body.wellFormed, Bool.and_eq_true, Bool.not_eq_true'] at w
      exact congrArg some (readStop_malformed t bs w.2)
  | stopAtPassEnd t m => exact decodeFrame_content rfl rfl h
  | release t b =>
    exact decodeFrame_content rfl (congrArg (fun b => some (Instr.release t b)) (readByte_bytes (fun _ => rfl) w)) h
  | flush t b =>
    exact decodeFrame_content rfl (congrArg (fun b => some (Instr.flush t b)) (readByte_bytes (fun _ => rfl) w)) h
  | getChannel t b =>
    exact decodeFrame_content rfl (congrArg (fun b => some (Instr.getChannel t b)) (readByte_bytes (fun _ => rfl) w)) h
  | setRate t b =>
    refine decodeFrame_content rfl (congrArg (fun b => some (Instr.setRate t b))
      (read_bytes readRate w readRate_malformed (fun f _ => ?_))) h
    simp [RateFields.bytes, u32, readRate, word_setWidth]
  | runRates t b =>
    exact decodeFrame_content rfl (congrArg (fun b => some (Instr.runRates t b)) (readByte_bytes (fun _ => rfl) w)) h
  | haltRates t b =>
    exact decodeFrame_content rfl (congrArg (fun b => some (Instr.haltRates t b)) (readByte_bytes (fun _ => rfl) w)) h
  | getRates t b =>
    exact decodeFrame_content rfl (congrArg (fun b => some (Instr.getRates t b)) (readNone_bytes (fun _ => rfl) w)) h
  | setInputs t b =>
    refine decodeFrame_content rfl (congrArg (fun b => some (Instr.setInputs t b))
      (read_bytes readInputs w readInputs_malformed (fun f _ => ?_))) h
    simp [InputsFields.bytes, halfBytes, u16, readInputs, half_setWidth]
  | defineTrigger t b =>
    exact decodeFrame_content rfl (congrArg (fun b => some (Instr.defineTrigger t b))
      (read_bytes readTrigger w readTrigger_malformed (fun _ _ => rfl))) h
  | fire t b =>
    exact decodeFrame_content rfl (congrArg (fun b => some (Instr.fire t b)) (readByte_bytes (fun _ => rfl) w)) h
  | getTrigger t b =>
    exact decodeFrame_content rfl (congrArg (fun b => some (Instr.getTrigger t b)) (readByte_bytes (fun _ => rfl) w)) h
  | getInputs t b =>
    exact decodeFrame_content rfl (congrArg (fun b => some (Instr.getInputs t b)) (readNone_bytes (fun _ => rfl) w)) h
  | save t b =>
    exact decodeFrame_content rfl (congrArg (fun b => some (Instr.save t b)) (read_bytes readSave w readSave_malformed (fun _ _ => rfl))) h
  | load t b =>
    exact decodeFrame_content rfl (congrArg (fun b => some (Instr.load t b)) (read_bytes readLoad w readLoad_malformed (fun _ _ => rfl))) h
  | erase t b =>
    exact decodeFrame_content rfl (congrArg (fun b => some (Instr.erase t b)) (readByte_bytes (fun _ => rfl) w)) h
  | setLock t b =>
    exact decodeFrame_content rfl (congrArg (fun b => some (Instr.setLock t b)) (read_bytes readLock w readLock_malformed (fun _ _ => rfl))) h
  | freeze t b =>
    exact decodeFrame_content rfl (congrArg (fun b => some (Instr.freeze t b)) (readByte_bytes (fun _ => rfl) w)) h
  | savePlan t b =>
    exact decodeFrame_content rfl (congrArg (fun b => some (Instr.savePlan t b)) (read_bytes readPlan w readPlan_malformed readPlan_bytes)) h
  | clearPlan t b =>
    exact decodeFrame_content rfl (congrArg (fun b => some (Instr.clearPlan t b)) (readNone_bytes (fun _ => rfl) w)) h
  | cancel t b =>
    exact decodeFrame_content rfl (congrArg (fun b => some (Instr.cancel t b)) (readByte_bytes (fun _ => rfl) w)) h
  | getSlot t b =>
    exact decodeFrame_content rfl (congrArg (fun b => some (Instr.getSlot t b)) (readByte_bytes (fun _ => rfl) w)) h
  | getStore t b =>
    refine decodeFrame_content rfl (congrArg (fun b => some (Instr.getStore t b))
      (read_bytes readFirst w readFirst_malformed (fun f _ => ?_))) h
    cases f <;> rfl
  | getPlan t b =>
    exact decodeFrame_content rfl (congrArg (fun b => some (Instr.getPlan t b)) (readNone_bytes (fun _ => rfl) w)) h
  | reset t b =>
    exact decodeFrame_content rfl (congrArg (fun b => some (Instr.reset t b)) (readNone_bytes (fun _ => rfl) w)) h
  | abortPlan t b =>
    exact decodeFrame_content rfl (congrArg (fun b => some (Instr.abortPlan t b)) (readNone_bytes (fun _ => rfl) w)) h
  | setNotices t b =>
    refine decodeFrame_content rfl (congrArg (fun b => some (Instr.setNotices t b))
      (read_bytes readNotices w readNotices_malformed (fun f _ => ?_))) h
    simp [NoticesFields.bytes, halfBytes, u16, readNotices, half_setWidth]
  | getLink t b =>
    exact decodeFrame_content rfl (congrArg (fun b => some (Instr.getLink t b)) (readByte_bytes (fun _ => rfl) w)) h
  | getPart t b =>
    exact decodeFrame_content rfl (congrArg (fun b => some (Instr.getPart t b)) (readNone_bytes (fun _ => rfl) w)) h
  | unknownRequest t body =>
    obtain rfl := Option.some.inj h
    cases body with
    | nil => rfl
    | cons code bs =>
      simp only [Instr.wellFormed, Bool.and_eq_true, Bool.not_eq_true'] at w
      simp [decodeFrame, decodeRequest, decodeCode_none w.2]
  | noticeAcknowledgement n body =>
    obtain rfl := Option.some.inj h
    rfl
  | kindError k t body =>
    obtain rfl := Option.some.inj h
    simp only [Instr.wellFormed, Bool.and_eq_true, decide_eq_true_eq] at w
    simp [decodeFrame, w.2]
  | _ => cases h

/-! ### The receiver's table (R144–R148) -/

/-- A command that stands for a frame is the arrival of its content and the frame's dispatch. -/
theorem exec_frame {i : Instr} {c : List Byte} (h : i.content? = some c) (s : State) :
    exec i s = .next (s.receive c (frameCheck c) (dispatch i)) := by
  cases i with
  | start t r =>
    obtain ⟨b, course⟩ := r
    cases course with
    | cons p ps => cases h
    | nil =>
      obtain rfl := Option.some.inj h
      rfl
  | lengthError | checkError | gapError | stopBitError | huntByte | lineBreak | replyFrameEnd | noticeFrameEnd
  | retransmitTimerExpiry | tick | tickDelivery | sample | blockTransfer | saveCompletion | loadCompletion
  | eraseCompletion | setLockCompletion | savePlanCompletion | clearPlanCompletion | scanCompletion | powerOn
  | powerLoss | resetnAsserted | pinReset | syncByte | frameByte | rxdReturnsToMark => cases h
  | _ =>
    obtain rfl := Option.some.inj h
    rfl

/-- A whole frame dispatches the command that its content is read as. -/
theorem closeFrame_good {i : Instr} {c : List Byte} (w : i.wellFormed = true) (h : i.content? = some c) (s : State) :
    closeFrame c (frameCheck c) s = dispatch i s.endFrame := by
  rw [closeFrame, if_pos rfl, dispatchContent, framesReadBack i c w h]

theorem takeByte_alive {s : State} (ha : s.alive = true) (hb : s.link.breakHeld = false) (b : Byte) :
    s.takeByte b = (State.rxByte b s).arbitrate :=
  lineEvent_alive ha hb _

theorem rxByte_lastCheck {s : State} {lo : Byte} {n : Nat} {got : List Byte} (hr : s.link.receiver = .check n got (some lo))
    (hi : Byte) : State.rxByte hi s = closeFrame got (half lo hi) s := by
  simp [State.rxByte, hr]

/-- Settles O9: the rows of the receiver's table. -/
theorem receiverTakesBytes : Obligations.ReceiverTakesBytes := by
  intro s ha hb
  have hbyte : ∀ b, exec (.frameByte b) s = .next (State.rxByte b s).arbitrate :=
    fun b => congrArg Host.Outcome.next (takeByte_alive ha hb b)
  refine ⟨fun hr => ⟨?_, fun b hne => ?_⟩, fun b hr h1 h2 => ?_, fun b n got hr => ?_, fun b n got hr => ?_,
    fun lo hi n got hr => ⟨fun i hc hi' hw => ?_, fun hc => ?_⟩⟩
  · have h : exec .syncByte s = .next (State.rxByte 0xB7 s).arbitrate :=
      congrArg Host.Outcome.next (takeByte_alive ha hb _)
    rw [h, State.rxByte, hr]
    rfl
  · have h : exec (.huntByte b) s = .next (State.rxByte b s).arbitrate :=
      congrArg Host.Outcome.next (takeByte_alive ha hb b)
    have hsync : b ≠ syncValue := hne
    rw [h, State.rxByte, hr]
    simp [hsync, State.count, hr]
  · have hgood : goodLength b = true := decide_eq_true ⟨h1, h2⟩
    rw [hbyte, State.rxByte, hr]
    simp [hgood, State.setReceiver]
  · rw [hbyte, State.rxByte, hr]
    by_cases hl : got.length + 1 < n <;> simp [hl, State.setReceiver]
  · rw [hbyte, State.rxByte, hr]
    rfl
  · have hframe : exec i s.endFrame = .next (dispatch i s.endFrame).arbitrate := by
      rw [exec_frame hi', receive_of_hunt (s := s.endFrame) ha hb rfl, endFrame_endFrame]
    show _ = exec i s.endFrame
    rw [hframe, hbyte, rxByte_lastCheck hr, hc, closeFrame_good hw hi']
  · have hframe : exec (.checkError got (half lo hi)) s.endFrame = .next (onCheckError s.endFrame).arbitrate := by
      have h : exec (.checkError got (half lo hi)) s.endFrame =
          .next (State.arbitrate (closeFrame got (half lo hi) s.endFrame.endFrame)) :=
        congrArg Host.Outcome.next (receive_of_hunt (s := s.endFrame) ha hb rfl ..)
      rw [h, closeFrame, if_neg hc]
      rfl
    show _ = exec (.checkError got (half lo hi)) s.endFrame
    rw [hframe, hbyte, rxByte_lastCheck hr, closeFrame, if_neg hc]

/-! ### A frame is its bytes (R143–R147) -/

theorem arbitrate_of_settled {s : State} (h : s.settled = true) : s.arbitrate = s := by
  unfold State.settled at h
  split at h
  · next hf =>
    simp only [Bool.and_eq_true, List.isEmpty_iff, Option.isNone_iff_eq_none] at h
    exact arbitrate_idle hf h.1 h.2
  · next hf => exact arbitrate_busy hf

/-- A byte that only moves the receiver on, on a settled part. -/
theorem takeByte_setReceiver {s : State} (ha : s.alive = true) (hb : s.link.breakHeld = false) (hs : s.settled = true)
    {r q : Receiver} {g h : Timer} {b : Byte} (e : State.rxByte b (s.setReceiver r g) = s.setReceiver q h) :
    (s.setReceiver r g).takeByte b = s.setReceiver q h := by
  rw [takeByte_alive (s := s.setReceiver r g) ha hb, e]
  exact arbitrate_of_settled (s := s.setReceiver q h) hs

/-- The bytes of KIND, TAG and BODY, from the receiver's BODY state on. -/
theorem takeBytes_body {s : State} (ha : s.alive = true) (hb : s.link.breakHeld = false) (hs : s.settled = true) {n : Nat}
    {got bs more : List Byte} (hn : got.length + bs.length = n) (hne : bs ≠ []) :
    State.takeBytes (bs ++ more) (s.setReceiver (.body n got) (.running 0)) =
      State.takeBytes more (s.setReceiver (.check n (got ++ bs) none) (.running 0)) := by
  induction bs generalizing got with
  | nil => exact absurd rfl hne
  | cons b bs ih =>
    rw [List.length_cons] at hn
    rw [List.cons_append, State.takeBytes]
    cases bs with
    | nil =>
      have hlast : ¬got.length + 1 < n := by simp at hn; omega
      rw [takeByte_setReceiver ha hb hs (q := .check n (got ++ [b]) none) (h := .running 0)]
      · rfl
      · simp [State.rxByte, State.setReceiver, hlast]
    | cons c cs =>
      have hmore : got.length + 1 < n := by simp at hn; omega
      rw [takeByte_setReceiver ha hb hs (q := .body n (got ++ [b])) (h := .running 0),
        ih (by simp at hn ⊢; omega) (by simp), List.append_assoc]
      · rfl
      · simp [State.rxByte, State.setReceiver, hmore]

/-- The law of frames, for every command. -/
theorem content_length (i : Instr) : Laws.Frame.Statement i := by
  cases i with
  | createSegment => apply Laws.Frame.createSegment
  | writeSamples => apply Laws.Frame.writeSamples
  | sealSegment => apply Laws.Frame.sealSegment
  | deleteSegment => apply Laws.Frame.deleteSegment
  | getSegment => apply Laws.Frame.getSegment
  | getPool => apply Laws.Frame.getPool
  | configureChannel => apply Laws.Frame.configureChannel
  | enqueue => apply Laws.Frame.enqueue
  | start => apply Laws.Frame.start
  | stopImmediate => apply Laws.Frame.stopImmediate
  | stopAtPassEnd => apply Laws.Frame.stopAtPassEnd
  | release => apply Laws.Frame.release
  | flush => apply Laws.Frame.flush
  | getChannel => apply Laws.Frame.getChannel
  | setRate => apply Laws.Frame.setRate
  | runRates => apply Laws.Frame.runRates
  | haltRates => apply Laws.Frame.haltRates
  | getRates => apply Laws.Frame.getRates
  | setInputs => apply Laws.Frame.setInputs
  | defineTrigger => apply Laws.Frame.defineTrigger
  | fire => apply Laws.Frame.fire
  | getTrigger => apply Laws.Frame.getTrigger
  | getInputs => apply Laws.Frame.getInputs
  | save => apply Laws.Frame.save
  | load => apply Laws.Frame.load
  | erase => apply Laws.Frame.erase
  | setLock => apply Laws.Frame.setLock
  | freeze => apply Laws.Frame.freeze
  | savePlan => apply Laws.Frame.savePlan
  | clearPlan => apply Laws.Frame.clearPlan
  | cancel => apply Laws.Frame.cancel
  | getSlot => apply Laws.Frame.getSlot
  | getStore => apply Laws.Frame.getStore
  | getPlan => apply Laws.Frame.getPlan
  | reset => apply Laws.Frame.reset
  | abortPlan => apply Laws.Frame.abortPlan
  | setNotices => apply Laws.Frame.setNotices
  | getLink => apply Laws.Frame.getLink
  | getPart => apply Laws.Frame.getPart
  | unknownRequest => apply Laws.Frame.unknownRequest
  | noticeAcknowledgement => apply Laws.Frame.noticeAcknowledgement
  | kindError => apply Laws.Frame.kindError
  | _ => exact Laws.Frame.of_none rfl

/-- A whole frame, byte after byte, on a settled part whose receiver hunts. -/
theorem takeBytes_frameWith {s : State} (hl : s.listening = true) (hs : s.settled = true) {c : List Byte} (k : Half)
    (h2 : 2 ≤ c.length) (h250 : c.length ≤ 250) : State.takeBytes (frameWith c k) s = (closeFrame c k s.endFrame).arbitrate := by
  obtain ⟨ha, hb, hr⟩ := State.listening_iff.mp hl
  have hlen : (BitVec.ofNat 8 c.length).toNat = c.length := by simp only [BitVec.toNat_ofNat]; omega
  have hsync : s.takeByte syncValue = s.setReceiver .length (.running 0) := by
    rw [takeByte_alive ha hb, State.rxByte, hr]
    exact arbitrate_of_settled (s := s.setReceiver .length (.running 0)) hs
  have hlength : (s.setReceiver .length (.running 0)).takeByte (BitVec.ofNat 8 c.length) =
      s.setReceiver (.body c.length []) (.running 0) := by
    refine takeByte_setReceiver ha hb hs ?_
    have hgood : goodLength (BitVec.ofNat 8 c.length) = true := decide_eq_true (by omega)
    have hrx : State.rxByte (BitVec.ofNat 8 c.length) (s.setReceiver .length (.running 0)) =
        if goodLength (BitVec.ofNat 8 c.length) then s.setReceiver (.body (BitVec.ofNat 8 c.length).toNat []) (.running 0)
        else onLengthError s.endFrame := rfl
    rw [hrx, if_pos hgood, hlen]
  have hlo : (s.setReceiver (.check c.length c none) (.running 0)).takeByte (loByte k) =
      s.setReceiver (.check c.length c (some (loByte k))) (.running 0) :=
    takeByte_setReceiver ha hb hs rfl
  have hhi : (s.setReceiver (.check c.length c (some (loByte k))) (.running 0)).takeByte (hiByte k) =
      (closeFrame c k s.endFrame).arbitrate := by
    rw [takeByte_alive (s := s.setReceiver (.check c.length c (some (loByte k))) (.running 0)) ha hb]
    show (closeFrame c (half (loByte k) (hiByte k)) _).arbitrate = _
    rw [half_lo_hi]
    rfl
  rw [frameWith, State.takeBytes, hsync, State.takeBytes, hlength,
    takeBytes_body ha hb hs (by simp) (by intro h; simp [h] at h2), List.nil_append, State.takeBytes, hlo, State.takeBytes, hhi]
  rfl

/-- Settles O8: both events are the frame's end at the receiver. -/
theorem frameCommandIsItsBytes : Obligations.FrameCommandIsItsBytes := by
  refine ⟨fun i c s hw hc hl hs => ?_, fun c k s hw hl hs => ?_⟩
  · obtain ⟨h2, h250⟩ := content_length i c hc hw
    rw [exec_frame hc, receive_listening hl, frame, takeBytes_frameWith hl hs _ h2 h250, closeFrame_good hw hc, endFrame_endFrame]
  · have hw : 2 ≤ c.length ∧ c.length ≤ 250 ∧ k ≠ frameCheck c := of_decide_eq_true hw
    rw [takeBytes_frameWith hl hs k hw.1 hw.2.1]
    exact congrArg Host.Outcome.next (receive_listening hl ..)

end Sys2Proof.Machine

/-! ## The pool: references, samples, WRITE_SAMPLES, SEAL_SEGMENT and DELETE_SEGMENT (R1, R11–R16, R18–R20) -/

namespace Sys2Proof.Machine

-- The proofs are checked one after another, so that their memory is not asked for at once.
set_option Elab.async false

/-! ### The record under an id, where the map is given -/

section Record

variable {s : State} {xs ys : List Segment} {g : Segment}

theorem ids_apart {id : Byte} (hx : ∀ x ∈ xs, x.id ≠ id) : ∀ x ∈ xs, decide (x.id = id) = false :=
  fun x hm => decide_eq_false (hx x hm)

theorem segment?_of_map (hm : s.pool.map = xs ++ g :: ys) (hx : ∀ x ∈ xs, x.id ≠ g.id) : s.segment? g.id = some g := by
  rw [State.segment?, hm]
  exact find?_append_first (ids_apart hx) (decide_eq_true rfl)

theorem modSegment_of_map (hm : s.pool.map = xs ++ g :: ys) (hx : ∀ x ∈ xs, x.id ≠ g.id) (f : Segment → Segment) :
    s.modSegment g.id f = { s with pool := { s.pool with map := xs ++ f g :: ys } } := by
  rw [State.modSegment, hm, modifyFirst_append f (ids_apart hx) (decide_eq_true rfl)]

theorem erase_of_map (hm : s.pool.map = xs ++ g :: ys) (hx : ∀ x ∈ xs, x.id ≠ g.id) :
    s.pool.map.eraseP (fun x => decide (x.id = g.id)) = xs ++ ys := by
  rw [hm]
  exact eraseP_append_first (ids_apart hx) (decide_eq_true rfl)

theorem freeSegment_unnoticed (hm : s.pool.map = xs ++ g :: ys) (hx : ∀ x ∈ xs, x.id ≠ g.id) :
    s.freeSegment g false = { s with pool := { s.pool with free := s.pool.free ++ g.blocks, map := xs ++ ys } } := by
  simp [State.freeSegment, erase_of_map hm hx]

theorem releaseRef_stays (hg : s.segment? g.id = some g) (h : 1 < g.refs ∨ (g.retiring = false ∧ g.state ≠ .failed)) :
    s.releaseRef g.id = s.modSegment g.id (fun x => { x with refs := x.refs - 1 }) := by
  have hstay : ¬(g.refs - 1 = 0 ∧ (g.retiring = true ∨ g.state = .failed)) := by
    rintro ⟨hr, hl⟩
    rcases h with h | ⟨hret, hst⟩
    · omega
    · simp [hret, hst] at hl
  rw [State.releaseRef, hg]
  exact if_neg hstay

theorem releaseRef_frees (hg : s.segment? g.id = some g) (hr : g.refs = 1) (hl : g.retiring = true ∨ g.state = .failed) :
    s.releaseRef g.id = s.freeSegment { g with refs := g.refs - 1 } true := by
  rw [State.releaseRef, hg]
  exact if_pos ⟨by omega, hl⟩

end Record

/-- Settles O22. -/
theorem referencesTakenAndReleased : Obligations.ReferencesTakenAndReleased := by
  intro s xs ys g hm hx
  have hg := segment?_of_map hm hx
  refine ⟨modSegment_of_map hm hx _, fun h => ?_, fun hr hl => ?_⟩
  · rw [releaseRef_stays hg h, modSegment_of_map hm hx]
  · rw [releaseRef_frees hg hr hl]
    simp only [State.freeSegment, if_true, State.notify, erase_of_map hm hx]
    cases g.origin <;> rfl

/-! ### Where a sample lies (R1) -/

/-- Within a segment's positions, different samples lie at different addresses. -/
theorem sampleAddr_inj {blocks : List Nat} (hb : blocks.Nodup) {p q : Nat} (hp : p < 64 * blocks.length) (hq : q < 64 * blocks.length)
    (h : sampleAddr blocks p = sampleAddr blocks q) : p = q := by
  have hpb : p / 64 < blocks.length := by omega
  have hqb : q / 64 < blocks.length := by omega
  simp only [sampleAddr, Config.blockSamples, List.getD_eq_getElem _ _ hpb, List.getD_eq_getElem _ _ hqb] at h
  have hblock : blocks[p / 64] = blocks[q / 64] := by omega
  have hindex : p / 64 = q / 64 := (List.Nodup.getElem_inj_iff hb).mp hblock
  omega

section WriteRun

variable {blocks : List Nat} {m : Memory} {p : Nat} {xs : List Sample}

/-- A run of writes leaves the samples at the other positions. -/
theorem readSample_writeRun_outside (hm : Memory.wf m = true) (hb : blocks.Nodup) (hp : p + xs.length ≤ 64 * blocks.length) {q : Nat}
    (hq : q < 64 * blocks.length) (ho : q < p ∨ p + xs.length ≤ q) :
    readSample (writeRun blocks p xs m) blocks q = readSample m blocks q := by
  induction xs generalizing p m with
  | nil => rfl
  | cons x xs ih =>
    rw [List.length_cons] at hp ho
    have hne : sampleAddr blocks q ≠ sampleAddr blocks p := fun e => by
      have := sampleAddr_inj hb hq (by omega) e
      omega
    rw [writeRun, ih (writeSample_wf hm _ _ _) (by omega) (by omega), readSample_writeSample hm, if_neg hne]

/-- A run of writes puts its samples. -/
theorem readSample_writeRun (hm : Memory.wf m = true) (hb : blocks.Nodup) (hp : p + xs.length ≤ 64 * blocks.length) {k : Nat}
    (hk : k < xs.length) : readSample (writeRun blocks p xs m) blocks (p + k) = xs[k] := by
  induction xs generalizing p m k with
  | nil => simp at hk
  | cons x xs ih =>
    rw [List.length_cons] at hp hk
    have hw := writeSample_wf hm blocks p x
    cases k with
    | zero =>
      rw [writeRun, readSample_writeRun_outside hw hb (by omega) (by omega) (by omega), readSample_writeSample hm]
      simp
    | succ k =>
      have := ih (p := p + 1) hw (by omega) (k := k) (by omega)
      rw [writeRun, List.getElem_cons_succ, ← this, Nat.add_right_comm, Nat.add_assoc]

/-- A run of writes leaves every byte outside its samples. -/
theorem readByte_writeRun (hm : Memory.wf m = true) {a : Nat}
    (ha : ∀ k, k < xs.length → a ≠ sampleAddr blocks (p + k) ∧ a ≠ sampleAddr blocks (p + k) + 1) :
    readByte (writeRun blocks p xs m) a = readByte m a := by
  induction xs generalizing p m with
  | nil => rfl
  | cons x xs ih =>
    obtain ⟨h0, h1⟩ := ha 0 (by simp)
    simp only [Nat.add_zero] at h0 h1
    have htail : ∀ k, k < xs.length → a ≠ sampleAddr blocks (p + 1 + k) ∧ a ≠ sampleAddr blocks (p + 1 + k) + 1 := by
      intro k hk
      have := ha (k + 1) (by simpa using hk)
      rwa [Nat.add_comm k 1, ← Nat.add_assoc] at this
    rw [writeRun, ih (writeSample_wf hm _ _ _) htail, writeSample, readByte_writeByte (writeByte_wf hm _ _), if_neg h1,
      readByte_writeByte hm, if_neg h0]

end WriteRun

/-- Settles O20. -/
theorem writtenSamplesReadBack : Obligations.WrittenSamplesReadBack := by
  intro m blocks p xs hm hb hp
  exact ⟨fun k _ => rfl, fun k hk => readSample_writeRun hm hb hp hk, fun q hq ho => readSample_writeRun_outside hm hb hp hq ho,
    fun a ha => readByte_writeRun hm ha, writeRun_wf blocks xs p hm⟩

/-! ### The id of a pool request (R4) -/

theorem idOk_iff {id : Byte} : idOk id = true ↔ id ≠ 0 ∧ id ≠ 255 := by simp [idOk]

section Named

variable {s : State} {id : Byte}

theorem named_range (h : id = 0 ∨ id = 255) : s.named id = .error .range := by
  have hbad : idOk id = false := by simpa [idOk, imp_iff_not_or] using h
  simp [State.named, hbad]

theorem named_noSuchSegment (h0 : id ≠ 0) (h255 : id ≠ 255) (h : s.segment? id = none) :
    s.named id = .error .noSuchSegment := by
  simp [State.named, idOk_iff.mpr ⟨h0, h255⟩, h]

theorem named_ok (h0 : id ≠ 0) (h255 : id ≠ 255) {g : Segment} (h : s.segment? id = some g) : s.named id = .ok g :=
  named_eq_ok.mpr ⟨idOk_iff.mpr ⟨h0, h255⟩, h⟩

end Named

/-! ### WRITE_SAMPLES (R18) -/

theorem ownWrite_error {f : WriteFields} {s : State} {st : Status} (h : s.named f.id = .error st) :
    ownWrite f s = .refused s st := by
  simp [ownWrite, h]

/-- The outcomes of WRITE_SAMPLES on a segment of the map. -/
theorem ownWrite_named {f : WriteFields} {s : State} {g : Segment} (h : s.named f.id = .ok g) :
    ownWrite f s = if g.state ≠ .filling then .refused s .segmentState
      else if f.offset.toNat ≠ g.fill then .refused s .outOfOrder
      else if g.length < f.offset.toNat + f.samples.length then .refused s .range
      else .reply ((s.fillSamples g g.fill f.samples).modSegment f.id (fun x => { x with fill := x.fill + f.samples.length })) .ok
        (u16 (g.fill + f.samples.length)) := by
  simp [ownWrite, h]

/-- Settles O19. -/
theorem writeSamples : Obligations.WriteSamples := by
  intro tag f s ht run refused
  refine ⟨fun h => ?_, fun h0 h255 => ⟨fun hnone => ?_, fun g hg => ?_⟩⟩
  · exact exec_answered_of_takes rfl rfl ht (fun l t => ownWrite_error (s := s.withFront l t) (named_range h)) rfl rfl
  · exact exec_answered_of_takes rfl rfl ht
      (fun l t => ownWrite_error (s := s.withFront l t) (named_noSuchSegment h0 h255 hnone)) rfl rfl
  · have hn : ∀ l t, (s.withFront l t).named f.id = .ok g := fun l t => named_ok h0 h255 hg
    refine ⟨fun hst => ?_, fun hst hoff => ?_, fun hst hoff hlen => ?_, fun hst hoff hlen => ?_⟩
    · exact exec_answered_of_takes rfl rfl ht (fun l t => (ownWrite_named (hn l t)).trans (if_pos hst)) rfl rfl
    · refine exec_answered_of_takes rfl rfl ht (fun l t => ?_) rfl rfl
      rw [ownWrite_named (hn l t), if_neg (not_not.mpr hst), if_pos hoff]
      rfl
    · refine exec_answered_of_takes rfl rfl ht (fun l t => ?_) rfl rfl
      rw [ownWrite_named (hn l t), if_neg (not_not.mpr hst), if_neg (not_not.mpr hoff), if_pos (hoff ▸ hlen)]
      rfl
    · have hseg := State.segment?_modSegment (s := s.fillSamples g g.fill f.samples)
        (f := fun x => { x with fill := x.fill + f.samples.length }) (fun _ => rfl) f.id
      refine ⟨(s.fillSamples g g.fill f.samples).modSegment f.id (fun x => { x with fill := x.fill + f.samples.length }),
        exec_answered_of_takes rfl rfl ht (fun l t => ?_) rfl rfl, rfl, ?_, by simp [State.modSegment, State.fillSamples],
        fun id hid => ?_⟩
      · rw [ownWrite_named (hn l t), if_neg (not_not.mpr hst), if_neg (not_not.mpr hoff), if_neg (by omega)]
        rfl
      · rw [hseg, if_pos rfl]
        exact congrArg (Option.map _) hg
      · rw [hseg, if_neg hid]
        rfl

/-! ### SEAL_SEGMENT and DELETE_SEGMENT (R15, R19, R20) -/

/-- A change of every channel, one after another, changes the vector. -/
theorem forEach_modChannel (f : Channel → Channel) (s : State) :
    forEach (fun c s => s.modChannel c f) allChannels s = { s with channels := s.channels.map f } := by
  have hv : (forEach (fun c s => s.modChannel c f) allChannels s).channels = s.channels.map f := by
    apply Vector.ext
    intro i hi
    interval_cases i <;>
      simp [forEach, allChannels, State.modChannel, State.setChannel, State.channel]
  rw [← hv]
  rfl

/-- A channel at the READY report of a segment. -/
def Channel.readied (id : Byte) (ch : Channel) : Channel :=
  if ch.state = .starved ∧ ch.queue.head?.map (fun e => e.segment) = some id then { ch with state := .playing } else ch

theorem setChannel_self (s : State) (c : Fin 4) : s.setChannel c (s.channel c) = s := by
  simp [State.setChannel, State.channel]

theorem readyReport_eq (id : Byte) (c : Fin 4) (s : State) : State.readyReport id c s = s.modChannel c (Channel.readied id) := by
  unfold State.readyReport
  split
  · next e rest hs hq =>
    by_cases he : e.segment = id
    · simp [he, State.modChannel, Channel.readied, hs, hq]
    · simp [he, State.modChannel, Channel.readied, hs, hq, setChannel_self]
  · next hno =>
    have hstay : Channel.readied id (s.channel c) = s.channel c := by
      refine if_neg fun ⟨hs, hq⟩ => ?_
      cases hc : (s.channel c).queue with
      | nil => simp [hc] at hq
      | cons e rest => exact hno e rest hs hc
    rw [State.modChannel, hstay, setChannel_self]

/-- The READY report to the four channels. -/
theorem reportReady_eq (s : State) (id : Byte) : s.reportReady id = { s with channels := s.channels.map (Channel.readied id) } := by
  have hf : State.readyReport id = fun c s => s.modChannel c (Channel.readied id) :=
    funext fun c => funext fun s => readyReport_eq id c s
  rw [State.reportReady, hf, forEach_modChannel]

theorem ownSeal_error {id : Byte} {s : State} {st : Status} (h : s.named id = .error st) : ownSeal id s = .refused s st := by
  simp [ownSeal, h]

theorem ownSeal_named {id : Byte} {s : State} {g : Segment} (h : s.named id = .ok g) :
    ownSeal id s = if g.state ≠ .filling then .refused s .segmentState
      else if g.fill < g.length then .reply s .outOfOrder (u16 g.fill ++ u16 g.length)
      else .reply ((s.modSegment id (fun x => { x with state := .ready })).reportReady id) .ok (u16 g.fill ++ u16 g.length) := by
  simp [ownSeal, h]

theorem ownDelete_error {id : Byte} {s : State} {st : Status} (h : s.named id = .error st) : ownDelete id s = .refused s st := by
  simp [ownDelete, h]

theorem ownDelete_named {id : Byte} {s : State} {g : Segment} (h : s.named id = .ok g) :
    ownDelete id s = if g.retiring then .refused s .retiring
      else if g.state = .loading then .refused s .segmentBusy
      else if g.refs = 0 then .reply (s.freeSegment g false) .ok (u8 0 ++ u8 0)
      else .reply (s.retire g) .ok (u8 1 ++ u8 g.refs) := by
  simp [ownDelete, h]

theorem retire_filling {s : State} {g : Segment} (h : g.state = .filling) : s.retire g =
    (s.modSegment g.id (fun x => { x with state := .failed, retiring := true })).reportFailed g.id := by
  simp [State.retire, h]

theorem retire_other {s : State} {g : Segment} (h : g.state ≠ .filling) :
    s.retire g = s.modSegment g.id (fun x => { x with retiring := true }) := by
  unfold State.retire
  split
  · next hf => exact absurd hf h
  · rfl

@[simp] theorem State.withFront_retire (s : State) (g : Segment) (l : Link) (t : Table) :
    (s.withFront l t).retire g = (s.retire g).withFront l t := by
  cases h : g.state <;> simp [State.retire, h]

/-- Settles O21. -/
theorem sealAndDelete : Obligations.SealAndDelete := by
  intro tag id s ht sealed deleted
  refine ⟨fun h => ⟨?_, ?_⟩, fun h0 h255 => ⟨fun hnone => ⟨?_, ?_⟩, fun xs g ys hm hid hx => ?_⟩⟩
  · exact exec_answered_of_takes rfl rfl ht (fun l t => ownSeal_error (s := s.withFront l t) (named_range h)) rfl rfl
  · exact exec_answered_of_takes rfl rfl ht (fun l t => ownDelete_error (s := s.withFront l t) (named_range h)) rfl rfl
  · exact exec_answered_of_takes rfl rfl ht
      (fun l t => ownSeal_error (s := s.withFront l t) (named_noSuchSegment h0 h255 hnone)) rfl rfl
  · exact exec_answered_of_takes rfl rfl ht
      (fun l t => ownDelete_error (s := s.withFront l t) (named_noSuchSegment h0 h255 hnone)) rfl rfl
  · subst hid
    have hg := segment?_of_map hm hx
    have hn : ∀ l t, (s.withFront l t).named g.id = .ok g := fun l t => named_ok h0 h255 hg
    refine ⟨fun hst => ?_, fun hst hf => ?_, fun hst hf => ?_, fun hr => ?_, fun hr => ⟨fun hst => ?_, fun hst hz => ?_,
      fun hst hfil hz => ?_, fun hst hz => ?_⟩⟩
    · exact exec_answered_of_takes rfl rfl ht (fun l t => (ownSeal_named (hn l t)).trans (if_pos hst)) rfl rfl
    · refine exec_answered_of_takes rfl rfl ht (fun l t => ?_) rfl rfl
      rw [ownSeal_named (hn l t), if_neg (not_not.mpr hst), if_pos hf]
    · refine exec_answered_of_takes rfl rfl ht (fun l t => ?_) rfl rfl
      rw [ownSeal_named (hn l t), if_neg (not_not.mpr hst), if_neg (Nat.not_lt.mpr hf), State.withFront_modSegment,
        modSegment_of_map hm hx, reportReady_eq]
      rfl
    · refine exec_answered_of_takes rfl rfl ht (fun l t => ?_) rfl rfl
      rw [ownDelete_named (hn l t), if_pos hr]
      rfl
    · refine exec_answered_of_takes rfl rfl ht (fun l t => ?_) rfl rfl
      rw [ownDelete_named (hn l t), if_neg (by simp [hr]), if_pos hst]
      rfl
    · refine exec_answered_of_takes rfl rfl ht (fun l t => ?_) rfl rfl
      rw [ownDelete_named (hn l t), if_neg (by simp [hr]), if_neg hst, if_pos hz, State.withFront_freeSegment,
        freeSegment_unnoticed hm hx]
      rfl
    · refine exec_answered_of_takes rfl rfl ht (fun l t => ?_) rfl rfl
      rw [ownDelete_named (hn l t), if_neg (by simp [hr]), if_neg hst, if_neg hz, State.withFront_retire, retire_other hfil,
        modSegment_of_map hm hx]
      rfl
    · have hframe := (Plays.reportFailed (s.modSegment g.id (fun x => { x with state := .failed, retiring := true })) g.id).frame
      rw [← modSegment_of_map hm hx (fun x => { x with state := .failed, retiring := true })]
      refine exec_answered_of_takes rfl rfl ht (fun l t => ?_) (by rw [hframe]; rfl) (by rw [hframe]; rfl)
      rw [ownDelete_named (hn l t), if_neg (by simp [hr]), if_neg (by simp [hst]), if_neg hz, State.withFront_retire,
        retire_filling hst]
      rfl

end Sys2Proof.Machine

/-! ## Head evaluation, reports and the channel requests (R9, R15, R16, R26–R34, R43, R47, R48, R52, R53) -/

namespace Sys2Proof.Machine

-- The proofs are checked one after another, so that their memory is not asked for at once.
set_option Elab.async false

/-! ### Updates of one channel -/

@[simp] theorem State.setChannel_setChannel (s : State) (c : Fin 4) (x y : Channel) :
    (s.setChannel c x).setChannel c y = s.setChannel c y := by
  simp [State.setChannel]

/-- Two changes of one channel are one. -/
@[simp] theorem State.modChannel_modChannel (s : State) (c : Fin 4) (f g : Channel → Channel) :
    (s.modChannel c f).modChannel c g = s.modChannel c (fun ch => g (f ch)) := by
  simp [State.modChannel]

theorem forEach_eq_foldl {α : Type} (f : α → State → State) (xs : List α) (s : State) :
    forEach f xs s = xs.foldl (fun t x => f x t) s := by
  induction xs generalizing s with
  | nil => rfl
  | cons x xs ih => exact ih (f x s)

/-! ### Head evaluation (R28, R30–R34, R43) -/

section Evaluation

variable {s : State} {c : Fin 4} {e : Entry} {rest : List Entry}

theorem evaluateHead_empty (hq : (s.channel c).queue = []) : s.evaluateHead c = { s with
    channels := s.channels.set c { s.channel c with state := .drained, activeGen := (s.channel c).defaultGen }
    notices := s.notices.produce .drained (.channel c) (u32 (s.channel c).counter.toNat) } := by
  rw [State.evaluateHead, hq]
  rfl

theorem evaluateHead_onTrigger {k : Fin 8} (hq : (s.channel c).queue = e :: rest) (hs : e.start = .onTrigger k) :
    s.evaluateHead c = s.setChannel c
      { s.channel c with state := .waiting, activeGen := e.generator.getD (s.channel c).defaultGen } := by
  have h : s.evaluateHead c = State.evalQueue c (e :: rest) s := congrArg (fun q => State.evalQueue c q s) hq
  simp only [h, State.evalQueue, hs, State.enterWaiting, State.modChannel_modChannel]
  rfl

/-- An IMMEDIATE head is seen by the segment's state (R31). -/
theorem evaluateHead_immediate (hq : (s.channel c).queue = e :: rest) (hs : e.start = .immediate) :
    s.evaluateHead c = match s.playable e.segment with
      | some st => (s.modChannel c (fun ch => { ch with activeGen := e.generator.getD ch.defaultGen })).enterStarted c e rest st
      | none => State.evalQueue c rest
          ((s.modChannel c (fun ch => { ch with activeGen := e.generator.getD ch.defaultGen })).dropHead c e rest) := by
  have h : s.evaluateHead c = State.evalQueue c (e :: rest) s := congrArg (fun q => State.evalQueue c q s) hq
  simp only [h, State.evalQueue, hs]
  rfl

theorem playable_failed {x : Segment} (hx : s.segment? e.segment = some x) (hf : x.state = .failed) : s.playable e.segment = none := by
  simp [State.playable, hx, hf]

theorem playable_live {x : Segment} (hx : s.segment? e.segment = some x) (hf : x.state ≠ .failed) :
    s.playable e.segment = some x.state := by
  simp [State.playable, hx, hf]

theorem enterStarted_ready : s.enterStarted c e rest .ready = s.modChannel c (fun ch => { ch with state := .playing, queue := e.begun :: rest }) :=
  rfl

theorem enterStarted_notReady {st : SegState} (h : st ≠ .ready) : s.enterStarted c e rest st =
    (s.modChannel c (fun ch => { ch with state := .starved, queue := e.begun :: rest })).notify .starved (.channel c)
      (e.segment :: u8 st.num) := by
  cases st with
  | ready => exact absurd rfl h
  | filling | loading | failed => rfl

/-- A skipped head leaves, and the queue behind it is evaluated. -/
theorem evalQueue_dropHead : State.evalQueue c rest (s.dropHead c e rest) = (s.dropHead c e rest).evaluateHead c := by
  rw [State.evaluateHead, channel_dropHead_self]

end Evaluation

/-! ### The reports from the pool (R9, R15, R16) -/

theorem starvedOn_iff {ch : Channel} {id : Byte} : (ch.state = .starved ∧ ch.queue.head?.map (fun e => e.segment) = some id) ↔
    ch.state = .starved ∧ ∃ e rest, ch.queue = e :: rest ∧ e.segment = id := by
  cases ch.queue <;> simp

/-- The FAILED report at one channel: a STARVED one on the segment skips its head. -/
theorem failedReport_eq (id : Byte) (c : Fin 4) (t : State) : State.failedReport id c t =
    if (t.channel c).state = .starved ∧ (t.channel c).queue.head?.map (fun e => e.segment) = some id then
      (State.notify .entrySkipped (.channel c) [id] (State.releaseRef
        { t with channels := t.channels.set c { t.channel c with queue := (t.channel c).queue.tail } } id)).evaluateHead c
    else t := by
  unfold State.failedReport
  split
  · next e rest hs hq =>
    by_cases he : e.segment = id
    · have hskip : t.skipHead c e rest = (t.dropHead c e rest).evaluateHead c := evalQueue_dropHead
      rw [if_pos he, if_pos (starvedOn_iff.mpr ⟨hs, e, rest, hq, he⟩), hskip, State.dropHead, he, hq]
      rfl
    · simp [he, hs, hq]
  · next hno =>
    refine (if_neg fun h => ?_).symm
    obtain ⟨hs, e, rest, hq, -⟩ := starvedOn_iff.mp h
    exact hno e rest hs hq

section Failure

variable {s : State} {xs ys : List Segment} {g : Segment}

theorem failLoading_frees (hm : s.pool.map = xs ++ g :: ys) (hx : ∀ x ∈ xs, x.id ≠ g.id) (hr : g.refs ≤ 1) :
    s.failLoading g.id = { s with
      pool := { s.pool with free := s.pool.free ++ g.blocks, map := xs ++ ys }
      notices := s.notices.produce .segmentFreed (.segment g.id) (3 :: u8 g.origin.num) } := by
  have h0 : g.refs - 1 = 0 := by omega
  simp only [State.failLoading, segment?_of_map hm hx, h0, if_true, State.freeSegment, erase_of_map hm hx]
  rfl

theorem failLoading_keeps (hm : s.pool.map = xs ++ g :: ys) (hx : ∀ x ∈ xs, x.id ≠ g.id) (hr : 1 < g.refs) :
    s.failLoading g.id = State.reportFailed { s with pool := { s.pool with
      map := xs ++ { g with state := .failed, retiring := true, refs := g.refs - 1 } :: ys } } g.id := by
  have h0 : ¬g.refs - 1 = 0 := by omega
  simp only [State.failLoading, segment?_of_map hm hx, h0, if_false, modSegment_of_map hm hx]

end Failure

/-- Settles O25: head evaluation by the queue's head, then the two reports channel by channel, then the failure. -/
theorem headEvaluation : Obligations.HeadEvaluation := by
  refine ⟨fun s c => ⟨evaluateHead_empty, fun e rest hq => ⟨fun t ht => evaluateHead_onTrigger hq ht, fun x hs hx =>
    ⟨fun hr => ?_, fun hr => ?_, fun hf => ?_⟩⟩⟩, fun s id => ⟨?_, ?_, fun xs g ys hm hid hx => ?_⟩⟩
  · rw [evaluateHead_immediate hq hs, playable_live hx (by simp [hr]), hr]
    simp only [enterStarted_ready, State.modChannel_modChannel]
    rfl
  · have hne : x.state ≠ .ready := by rcases hr with h | h <;> simp [h]
    rw [evaluateHead_immediate hq hs, playable_live hx (by rcases hr with h | h <;> simp [h])]
    simp only [enterStarted_notReady hne, State.modChannel_modChannel]
    rfl
  · rw [evaluateHead_immediate hq hs, playable_failed hx hf]
    show State.evalQueue c rest (State.dropHead _ c e rest) = _
    rw [evalQueue_dropHead, State.dropHead, State.modChannel_modChannel]
    rfl
  · rw [State.reportReady, forEach_eq_foldl]
    refine congrArg (fun f => List.foldl f s allChannels) (funext fun t => funext fun c => ?_)
    rw [readyReport_eq, State.modChannel, Channel.readied]
    by_cases h : (t.channel c).state = .starved ∧ (t.channel c).queue.head?.map (fun e => e.segment) = some id
    · rw [if_pos h, if_pos h]
      rfl
    · rw [if_neg h, if_neg h, setChannel_self]
  · rw [State.reportFailed, forEach_eq_foldl]
    exact congrArg (fun f => List.foldl f s allChannels) (funext fun t => funext fun c => failedReport_eq id c t)
  · subst hid
    exact ⟨failLoading_frees hm hx, failLoading_keeps hm hx⟩

/-! ### CONFIGURE_CHANNEL (R26) -/

theorem configOf_eq_some {f : ConfigFields} {c g : Fin 4} (hc : f.channel.toNat = c.val) (hg : f.generator.toNat = g.val) :
    configOf f = some (c, g) := by
  simp [configOf, fin4_eq_some.mpr hc, fin4_eq_some.mpr hg]

theorem configOf_eq_none {f : ConfigFields} (h : 3 < f.channel.toNat ∨ 3 < f.generator.toNat) : configOf f = none := by
  unfold configOf
  rcases h with h | h
  · simp [fin4_eq_none.mpr h]
  · rw [fin4_eq_none.mpr h]
    cases fin4 f.channel <;> rfl

theorem ownConfigure_ok {f : ConfigFields} {c g : Fin 4} (h : configOf f = some (c, g)) (s : State) :
    ownConfigure f s = if (s.channel c).isRunning then .refused s .channelRunning
      else .reply (s.modChannel c (fun ch => { ch with defaultGen := g, restCode := f.rest, output := f.rest, activeGen := g })) .ok
        (u8 g.val ++ halfBytes f.rest) := by
  simp [ownConfigure, h]

/-- Settles O23. -/
theorem configureChannel : Obligations.ConfigureChannel := by
  intro tag f s ht run
  refine ⟨fun h => ?_, fun c g hc hg => ⟨fun hs => ?_, fun hs => ?_⟩⟩
  · refine exec_answered_of_takes rfl rfl ht (fun l t => ?_) rfl rfl
    simp [ownConfigure, configOf_eq_none h, Owned.refused]
  · refine exec_answered_of_takes rfl rfl ht (fun l t => ?_) rfl rfl
    rw [ownConfigure_ok (configOf_eq_some hc hg)]
    exact if_pos (decide_eq_true hs)
  · refine exec_answered_of_takes rfl rfl ht (fun l t => ?_) rfl rfl
    rw [ownConfigure_ok (configOf_eq_some hc hg)]
    exact if_neg (by simp [Channel.isRunning, hs])

/-! ### RELEASE (R52) -/

theorem ownRelease_range {b : Byte} (h : 3 < b.toNat) (s : State) : ownRelease b s = .refused s .range := by
  simp [ownRelease, fin4_eq_none.mpr h]

theorem ownRelease_nothing {b : Byte} {c : Fin 4} (hc : b.toNat = c.val) {s : State} (h : (s.channel c).headStarted = false) :
    ownRelease b s = .refused s .nothingToRelease := by
  simp only [ownRelease, fin4_eq_some.mpr hc]
  cases (s.channel c).queue <;> simp [h]

theorem ownRelease_ok {b : Byte} {c : Fin 4} (hc : b.toNat = c.val) {s : State} (h : (s.channel c).headStarted = true) {e : Entry}
    {rest : List Entry} (hq : (s.channel c).queue = e :: rest) : ownRelease b s =
      .reply (s.setChannel c { s.channel c with queue := { e with released := true } :: rest }) .ok (u16 e.passes ++ u16 e.cursor) := by
  simp only [ownRelease, fin4_eq_some.mpr hc, hq, h, if_true, State.modChannel, setHead]

/-- Settles O28. -/
theorem releaseRequest : Obligations.ReleaseRequest := by
  intro tag b s ht run
  refine ⟨fun h => exec_answered_of_takes rfl rfl ht (fun _ _ => ownRelease_range h _) rfl rfl,
    fun c hc => ⟨fun hp hs => ?_, fun e rest hs hq => ?_⟩⟩
  · have hno : (s.channel c).headStarted = false := by simp [Channel.headStarted, hp, hs]
    exact exec_answered_of_takes rfl rfl ht (fun l t => ownRelease_nothing (s := s.withFront l t) hc hno) rfl rfl
  · have hyes := Channel.headStarted_iff.mpr hs
    exact exec_answered_of_takes rfl rfl ht (fun l t => ownRelease_ok (s := s.withFront l t) hc hyes hq) rfl rfl

/-! ### FLUSH (R53) -/

/-- The removals of a FLUSH: the queue is cut, and each entry removed releases its reference. -/
def State.flushEntries (s : State) (c : Fin 4) : State :=
  (s.channel c).flushed.foldl (fun u e => u.releaseRef e.segment) (s.setChannel c { s.channel c with queue := (s.channel c).kept })

theorem flushEntries_channel (s : State) (c : Fin 4) :
    (s.flushEntries c).channel c = { s.channel c with queue := (s.channel c).kept } := by
  rw [State.flushEntries, ← forEach_eq_foldl (fun (e : Entry) (u : State) => u.releaseRef e.segment), channel_releaseAll,
    State.channel_setChannel_self]

theorem flush_eq (s : State) (c : Fin 4) :
    s.flush c = if (s.channel c).state = .waiting then (s.flushEntries c).evaluateHead c else s.flushEntries c := by
  unfold State.flush State.flushEntries
  rw [← forEach_eq_foldl (fun (e : Entry) (u : State) => u.releaseRef e.segment)]
  rfl

theorem ownFlush_range {b : Byte} (h : 3 < b.toNat) (s : State) : ownFlush b s = .refused s .range := by
  simp [ownFlush, fin4_eq_none.mpr h]

theorem ownFlush_ok {b : Byte} {c : Fin 4} (hc : b.toNat = c.val) (s : State) : ownFlush b s =
    .reply (s.flush c) .ok (u8 (s.channel c).flushed.length ++ u8 ((s.flush c).channel c).state.num) := by
  simp [ownFlush, fin4_eq_some.mpr hc]

theorem flush_behind {s : State} (c : Fin 4) : (s.flush c).link = s.link ∧ (s.flush c).table = s.table := by
  rw [(Plays.flush s c).frame]
  exact ⟨rfl, rfl⟩

/-- The event of a FLUSH in range. -/
theorem exec_flush {tag b : Byte} {c : Fin 4} {s : State} (ht : s.takes tag = true) (hc : b.toNat = c.val) :
    exec (.flush tag (.fields b)) s = .next ((s.flush c).answered tag 0x25 .ok
      (u8 (s.channel c).flushed.length ++ u8 ((s.flush c).channel c).state.num)) := by
  refine exec_answered_of_takes rfl rfl ht (fun l t => ?_) (flush_behind c).1 (flush_behind c).2
  rw [ownFlush_ok hc, State.withFront_flush]
  rfl

/-- The entries removed and left, as the started head says. -/
theorem flushed_eq (ch : Channel) :
    ch.flushed = (if ch.state = .playing ∨ ch.state = .starved then ch.queue.tail else ch.queue) ∧
    ch.kept = (if ch.state = .playing ∨ ch.state = .starved then ch.queue.take 1 else []) := by
  by_cases h : ch.state = .playing ∨ ch.state = .starved
  · simp [Channel.flushed, Channel.kept, Channel.headStarted_iff.mpr h, h]
  · have hno : ch.headStarted = false := Bool.eq_false_iff.mpr fun hh => h (Channel.headStarted_iff.mp hh)
    simp [Channel.flushed, Channel.kept, hno, h]

/-- Settles O29: the removals, and the head evaluation of a WAITING channel, whose queue is then empty. -/
theorem flushRequest : Obligations.FlushRequest := by
  intro tag b s ht run
  refine ⟨fun h => exec_answered_of_takes rfl rfl ht (fun _ _ => ownFlush_range h _) rfl rfl, ?_⟩
  intro c hc ch started removed u
  have hremoved : removed = ch.flushed := (flushed_eq ch).1.symm
  have hu : u = s.flushEntries c := by
    show removed.foldl _ (s.setChannel c _) = _
    rw [hremoved, State.flushEntries, (flushed_eq ch).2]
  rw [hremoved, hu]
  refine ⟨fun hw => ?_, fun hw => ?_⟩
  · have hf : s.flush c = s.flushEntries c := by rw [flush_eq, if_neg hw]
    show exec _ _ = _
    rw [exec_flush ht hc, hf, flushEntries_channel]
  · have hkept : ch.kept = [] := by
      rw [(flushed_eq ch).2, if_neg]
      simp [ch, hw]
    have hch : (s.flushEntries c).channel c = { ch with queue := [] } := by rw [flushEntries_channel, hkept]
    have hf : s.flush c = { s.flushEntries c with
        channels := (s.flushEntries c).channels.set c { ch with queue := [], state := .drained, activeGen := ch.defaultGen }
        notices := (s.flushEntries c).notices.produce .drained (.channel c) (u32 ch.counter.toNat) } := by
      rw [flush_eq, if_pos hw, evaluateHead_empty (by rw [hch]), hch]
    have hstate : ((s.flush c).channel c).state = .drained := by simp [hf, State.channel]
    show exec _ _ = _
    rw [exec_flush ht hc, hstate, hf]
    rfl

end Sys2Proof.Machine

/-! ## What the players move, ENQUEUE and STOP (R29, R47, R48, R50, R51) -/

namespace Sys2Proof.Machine

-- The proofs are checked one after another, so that their memory is not asked for at once.
set_option Elab.async false

/-! ### Operations on channels that leave the Trigger Unit -/

/-- An operation that changes the channels, the free list, the segment map and the notices, and nothing else. -/
structure Moves (s t : State) : Prop where
  frame : t = { s with
    channels := t.channels, pool := { s.pool with free := t.pool.free, map := t.pool.map }, notices := t.notices }

namespace Moves

variable {s t u : State}

theorem refl (s : State) : Moves s s := ⟨rfl⟩

theorem trans (h : Moves s t) (h' : Moves t u) : Moves s u := by
  refine ⟨?_⟩
  rw [h'.frame, h.frame]

theorem trigger (h : Moves s t) (k : Fin 8) : t.trigger k = s.trigger k := by
  rw [h.frame]
  rfl

theorem modChannel (s : State) (c : Fin 4) (f : Channel → Channel) : Moves s (s.modChannel c f) := ⟨rfl⟩

theorem notify (s : State) (k : NoticeKind) (src : Source) (d : List Byte) : Moves s (s.notify k src d) := ⟨rfl⟩

theorem freeSegment (s : State) (g : Segment) (b : Bool) : Moves s (s.freeSegment g b) := ⟨by cases b <;> rfl⟩

theorem releaseRef (s : State) (id : Byte) : Moves s (s.releaseRef id) := by
  rcases releaseRef_cases s id with ⟨-, e⟩ | ⟨g, -, -, -, e⟩ | ⟨g, -, -, e⟩ <;> rw [e]
  · exact refl s
  · exact freeSegment s _ true
  · exact ⟨rfl⟩

theorem forEach {α : Type} {f : α → State → State} (h : ∀ x s, Moves s (f x s)) (xs : List α) (s : State) :
    Moves s (Machine.forEach f xs s) := by
  induction xs generalizing s with
  | nil => exact refl s
  | cons x xs ih => exact (h x s).trans (ih (f x s))

theorem enterStarted (s : State) (c : Fin 4) (e : Entry) (rest : List Entry) (st : SegState) :
    Moves s (s.enterStarted c e rest st) := by
  unfold State.enterStarted
  split
  · exact modChannel s c _
  · exact (modChannel s c _).trans (notify ..)

theorem dropHead (s : State) (c : Fin 4) (e : Entry) (rest : List Entry) : Moves s (s.dropHead c e rest) :=
  ((modChannel s c _).trans (releaseRef _ _)).trans (notify ..)

theorem evalQueue (c : Fin 4) (q : List Entry) (s : State) : Moves s (State.evalQueue c q s) := by
  induction q generalizing s with
  | nil => exact (modChannel s c _).trans (notify ..)
  | cons e rest ih =>
    refine (modChannel s c (fun ch => { ch with activeGen := e.generator.getD ch.defaultGen })).trans ?_
    unfold State.evalQueue
    cases e.start with
    | onTrigger k => exact modChannel _ c _
    | immediate =>
      dsimp only
      split
      · exact enterStarted ..
      · exact (dropHead _ c e rest).trans (ih _)

theorem evaluateHead (s : State) (c : Fin 4) : Moves s (s.evaluateHead c) := evalQueue c _ s

theorem skipHead (s : State) (c : Fin 4) (e : Entry) (rest : List Entry) : Moves s (s.skipHead c e rest) :=
  (dropHead s c e rest).trans (evalQueue c rest _)

theorem meetStart (s : State) (c : Fin 4) (e : Entry) (rest : List Entry) : Moves s (s.meetStart c e rest) := by
  unfold State.meetStart
  split
  · exact enterStarted ..
  · exact skipHead ..

theorem holdBack (s : State) (ctx : TickContext) (c : Fin 4) : Moves s (s.holdBack ctx c) := by
  unfold State.holdBack
  split
  · exact refl s
  · split
    · exact modChannel s c _
    · exact refl s

theorem takeFiring (k : Fin 8) (ctx : TickContext) (c : Fin 4) (s : State) : Moves s (State.takeFiring k ctx c s) := by
  unfold State.takeFiring
  split
  · split
    · exact (meetStart s c _ _).trans (holdBack _ ctx c)
    · exact refl s
  · split
    · exact modChannel s c _
    · exact refl s

theorem removeStarted (s : State) (c : Fin 4) : Moves s (s.removeStarted c) := by
  unfold State.removeStarted
  split
  · split
    · exact (modChannel s c _).trans (releaseRef _ _)
    · exact refl s
  · exact refl s

theorem stopNow (c : Fin 4) (s : State) : Moves s (State.stopNow c s) := by
  unfold State.stopNow
  split
  · exact (removeStarted s c).trans (modChannel _ c _)
  · exact refl s

theorem stopAtPassEnd (c : Fin 4) (s : State) : Moves s (State.stopAtPassEnd c s) := by
  unfold State.stopAtPassEnd
  split
  · exact modChannel s c _
  · exact stopNow c s

theorem startChannel (c : Fin 4) (s : State) : Moves s (State.startChannel c s) := (modChannel s c _).trans (evaluateHead _ c)

theorem link (h : Moves s t) : t.link = s.link := by rw [h.frame]

theorem table (h : Moves s t) : t.table = s.table := by rw [h.frame]

end Moves

/-! ### Channels visited one after another -/

/-- A visit that depends on the visited channel alone may be stated for the state before the visits. -/
theorem forEach_congr {f g : Fin 4 → State → State} (only : ∀ c s, Only c s (f c s)) {s : State} {xs : List (Fin 4)} (hx : xs.Nodup)
    (h : ∀ c ∈ xs, ∀ t : State, t.channel c = s.channel c → f c t = g c t) : forEach f xs s = forEach g xs s := by
  have general (t : State) (ht : ∀ c ∈ xs, t.channel c = s.channel c) : forEach f xs t = forEach g xs t := by
    induction xs generalizing t with
    | nil => rfl
    | cons x xs ih =>
      obtain ⟨hx', hxs⟩ := List.nodup_cons.mp hx
      have hstep := h x (by simp) t (ht x (by simp))
      have := ih hxs (fun c hc => h c (by simp [hc])) (f x t) fun c hc => by
        rw [(only x t).other c (fun e => hx' (e ▸ hc))]
        exact ht c (by simp [hc])
      simpa [forEach, ← hstep] using this
  exact general s fun _ _ => rfl

/-! ### Masks (R174) -/

theorem maskOk_false {m : Byte} (h : m = 0 ∨ 16 ≤ m.toNat) : maskOk m = false := by
  rcases h with h | h
  · simp [maskOk, h]
  · simp [maskOk, Nat.not_lt.mpr h]

theorem maskOk_true {m : Byte} (h0 : m ≠ 0) (h : m.toNat < 16) : maskOk m = true := decide_eq_true ⟨h0, h⟩

theorem mem_named {m : Byte} {c : Fin 4} : c ∈ named m ↔ m.getLsbD c.val = true := by
  unfold named
  rw [List.mem_filter]
  exact ⟨fun h => h.2, fun h => ⟨by fin_cases c <;> simp, h⟩⟩

/-! ### STOP (R50, R51) -/

/-- Whether a STOP takes a channel's head. -/
abbrev Channel.stopRemoves (atPassEnd : Bool) (ch : Channel) : Prop :=
  ch.state = .starved ∨ (ch.state = .playing ∧ atPassEnd = false)

/-- A channel after a STOP. -/
def Channel.afterStop (atPassEnd : Bool) (ch : Channel) : Channel :=
  if ch.state = .stopped then ch
  else if ch.state = .playing ∧ atPassEnd = true then { ch with queue := setHead (fun e => { e with stopPending := true }) ch.queue }
  else { ch with
    state := .stopped, output := ch.restCode, m0 := .low, m1 := .low, activeGen := ch.defaultGen
    queue := if ch.stopRemoves atPassEnd then ch.queue.tail else ch.queue }

/-- A channel `ch` stops in `t`: its new state, and the release of the head that left. -/
def State.stopOne (atPassEnd : Bool) (c : Fin 4) (ch : Channel) (t : State) : State :=
  match ch.queue with
  | [] => t.setChannel c (ch.afterStop atPassEnd)
  | e :: _ => if ch.stopRemoves atPassEnd then (t.setChannel c (ch.afterStop atPassEnd)).releaseRef e.segment
      else t.setChannel c (ch.afterStop atPassEnd)

/-- STOP on one channel, in both modes. -/
def State.stopChannel (atPassEnd : Bool) (c : Fin 4) (s : State) : State :=
  if atPassEnd then State.stopAtPassEnd c s else State.stopNow c s

theorem releaseRef_setChannel (s : State) (c : Fin 4) (x : Channel) (id : Byte) :
    (s.setChannel c x).releaseRef id = (s.releaseRef id).setChannel c x := by
  unfold State.releaseRef
  rw [State.segment?_setChannel]
  split
  · rfl
  · split
    · rfl
    · rfl

theorem stopRemoves_iff {ap : Bool} {ch : Channel} (h : ¬(ch.state = .playing ∧ ap = true)) :
    ch.stopRemoves ap ↔ ch.headStarted = true := by
  rw [Channel.headStarted_iff, Channel.stopRemoves]
  cases ap <;> simp_all [or_comm]

/-- A release commutes with the entering of STOPPED. -/
theorem enterStopped_releaseRef (s : State) (c : Fin 4) (id : Byte) :
    (s.releaseRef id).enterStopped c = (s.enterStopped c).releaseRef id := by
  rw [State.enterStopped, State.enterStopped, State.modChannel, State.modChannel, State.channel_releaseRef, releaseRef_setChannel]

/-- A running channel that a STOP halts. -/
theorem stopNow_running {ap : Bool} {c : Fin 4} {t : State} (hr : (t.channel c).state ≠ .stopped)
    (h : ¬((t.channel c).state = .playing ∧ ap = true)) : State.stopNow c t = State.stopOne ap c (t.channel c) t := by
  have hrun : (t.channel c).isRunning = true := decide_eq_true hr
  have hafter : ∀ q, (if (t.channel c).stopRemoves ap then (t.channel c).queue.tail else (t.channel c).queue) = q →
      (t.channel c).afterStop ap = { t.channel c with
        state := .stopped, output := (t.channel c).restCode, m0 := .low, m1 := .low
        activeGen := (t.channel c).defaultGen, queue := q } := by
    intro q hq
    rw [Channel.afterStop, if_neg hr, if_neg h, hq]
  rw [State.stopNow, if_pos hrun, State.stopOne, State.removeStarted]
  cases hq : (t.channel c).queue with
  | nil =>
    rw [hafter [] (by simp [hq]), State.enterStopped, State.modChannel]
    simp [← hq]
  | cons e rest =>
    by_cases hs : (t.channel c).headStarted = true
    · have hrem : (t.channel c).stopRemoves ap := (stopRemoves_iff h).mpr hs
      dsimp only
      rw [if_pos hs, if_pos hrem, hafter rest (by simp [hrem, hq]), enterStopped_releaseRef, State.enterStopped,
        State.modChannel_modChannel]
      rfl
    · have hrem : ¬(t.channel c).stopRemoves ap := fun hr => hs ((stopRemoves_iff h).mp hr)
      dsimp only
      rw [if_neg hs, if_neg hrem, hafter (e :: rest) (by simp [hrem, hq]), State.enterStopped, State.modChannel, hq]

/-- A STOP that takes no head. -/
theorem stopOne_kept {ap : Bool} {ch : Channel} (h : ¬ch.stopRemoves ap) (c : Fin 4) (t : State) :
    State.stopOne ap c ch t = t.setChannel c (ch.afterStop ap) := by
  unfold State.stopOne
  split
  · rfl
  · exact if_neg h

theorem stopChannel_eq (ap : Bool) (c : Fin 4) (t : State) : State.stopChannel ap c t = State.stopOne ap c (t.channel c) t := by
  by_cases hs : (t.channel c).state = .stopped
  · have hone : State.stopOne ap c (t.channel c) t = t := by
      have hrem : ¬(t.channel c).stopRemoves ap := by simp [Channel.stopRemoves, hs]
      rw [stopOne_kept hrem, Channel.afterStop, if_pos hs, setChannel_self]
    have hnow : State.stopNow c t = t := by simp [State.stopNow, Channel.isRunning, hs]
    rw [hone]
    cases ap <;> simp [State.stopChannel, State.stopAtPassEnd, hs, hnow]
  · by_cases hp : (t.channel c).state = .playing ∧ ap = true
    · have hrem : ¬(t.channel c).stopRemoves ap := by simp [Channel.stopRemoves, hp]
      rw [stopOne_kept hrem, Channel.afterStop, if_neg hs, if_pos hp]
      simp [State.stopChannel, State.stopAtPassEnd, hp, State.modChannel]
    · rw [← stopNow_running hs hp]
      cases ap with
      | false => rfl
      | true => simp [State.stopChannel, State.stopAtPassEnd, show ¬(t.channel c).state = .playing by simpa using hp]

theorem Only.stopChannel (ap : Bool) (c : Fin 4) (s : State) : Only c s (State.stopChannel ap c s) := by
  cases ap
  · exact Only.stopNow c s
  · exact Only.stopAtPassEnd c s

theorem Moves.stopChannel (ap : Bool) (c : Fin 4) (s : State) : Moves s (State.stopChannel ap c s) := by
  cases ap
  · exact Moves.stopNow c s
  · exact Moves.stopAtPassEnd c s

theorem stopOne_channel (ap : Bool) (c : Fin 4) (ch : Channel) (t : State) :
    (State.stopOne ap c ch t).channel c = ch.afterStop ap := by
  unfold State.stopOne
  split
  · simp
  · split <;> simp

/-- The channels after a STOP of the channels listed. -/
theorem stopChannels_channel (ap : Bool) {xs : List (Fin 4)} (hx : xs.Nodup) (s : State) (c : Fin 4) :
    (forEach (State.stopChannel ap) xs s).channel c = if c ∈ xs then (s.channel c).afterStop ap else s.channel c :=
  forEach_channel (Only.stopChannel ap) (fun t ht => by rw [stopChannel_eq, stopOne_channel, ht]) hx

/-- The reply data of a STOP (R50, R51). -/
def stopReply (ap : Bool) (mask : Byte) (s u : State) : List Byte :=
  (named mask).flatMap (fun c => (if (s.channel c).stopRemoves ap then 1 else 0) :: u8 (u.channel c).queue.length)

theorem stopData_immediate (mask : Byte) (s u : State) : stopData Channel.headStarted s u mask = stopReply false mask s u := by
  have h (c : Fin 4) : yesNo (s.channel c).headStarted = [if (s.channel c).stopRemoves false then 1 else 0] := by
    have := stopRemoves_iff (ap := false) (ch := s.channel c) (by simp)
    by_cases hs : (s.channel c).headStarted = true <;> simp [yesNo, hs, this]
  simp only [stopData, stopReply, h, List.cons_append, List.nil_append]

theorem stopData_atPassEnd (mask : Byte) (s u : State) :
    stopData (fun ch => decide (ch.state = .starved)) s u mask = stopReply true mask s u := by
  have h (c : Fin 4) : yesNo (decide ((s.channel c).state = .starved)) = [if (s.channel c).stopRemoves true then 1 else 0] := by
    by_cases hs : (s.channel c).state = .starved <;> simp [yesNo, hs, Channel.stopRemoves]
  simp only [stopData, stopReply, h, List.cons_append, List.nil_append]

theorem forEach_stopChannel_behind (ap : Bool) (xs : List (Fin 4)) : BehindTheTable (forEach (State.stopChannel ap) xs) := by
  refine forEach_behind (fun c => ?_) xs
  cases ap
  · exact stopNow_behind c
  · exact stopAtPassEnd_behind c

theorem ownStopImmediate_ok {mask : Byte} (hm : maskOk mask = true) (s : State) : ownStopImmediate ⟨mask, 0⟩ s =
    .reply (forEach (State.stopChannel false) (named mask) s) .ok
      (stopReply false mask s (forEach (State.stopChannel false) (named mask) s)) := by
  have hstop : State.stopNow = State.stopChannel false := rfl
  rw [← stopData_immediate]
  simp [ownStopImmediate, hm, hstop]

theorem ownStopAtPassEnd_ok {mask : Byte} (hm : maskOk mask = true) (s : State) : ownStopAtPassEnd mask s =
    .reply (forEach (State.stopChannel true) (named mask) s) .ok
      (stopReply true mask s (forEach (State.stopChannel true) (named mask) s)) := by
  have hstop : State.stopAtPassEnd = State.stopChannel true := rfl
  rw [← stopData_atPassEnd]
  simp [ownStopAtPassEnd, hm, hstop]

/-- The event of a STOP in range. -/
theorem exec_stop {tag mask : Byte} {s : State} (ht : s.takes tag = true) (hm : maskOk mask = true) (ap : Bool) :
    (if ap then exec (.stopAtPassEnd tag mask) s else exec (.stopImmediate tag (.fields ⟨mask, 0⟩)) s) =
      .next ((forEach (State.stopChannel ap) (named mask) s).answered tag 0x23 .ok
        (stopReply ap mask s (forEach (State.stopChannel ap) (named mask) s))) := by
  have hmoves := Moves.forEach (Moves.stopChannel ap) (named mask) s
  cases ap with
  | false =>
    show exec (.stopImmediate tag (.fields ⟨mask, 0⟩)) s = _
    refine exec_answered_of_takes rfl rfl ht (fun l t => ?_) hmoves.link hmoves.table
    rw [ownStopImmediate_ok hm, forEach_stopChannel_behind]
    rfl
  | true =>
    show exec (.stopAtPassEnd tag mask) s = _
    refine exec_answered_of_takes (f := mask) rfl rfl ht (fun l t => ?_) hmoves.link hmoves.table
    rw [ownStopAtPassEnd_ok hm, forEach_stopChannel_behind]
    rfl

theorem ownStopImmediate_range {f : StopFields} (h : maskOk f.mask = false ∨ f.mode ≠ 0) (s : State) :
    ownStopImmediate f s = .refused s .range := by
  have hbad : (!maskOk f.mask || decide (f.mode ≠ 0)) = true := by simpa using h
  rw [ownStopImmediate, if_pos hbad]

theorem ownStopAtPassEnd_range {mask : Byte} (h : maskOk mask = false) (s : State) :
    ownStopAtPassEnd mask s = .refused s .range := by
  simp [ownStopAtPassEnd, h]

/-- Settles O27: the channels named are visited one after another, each as it stands before the request. -/
theorem stopRequests : Obligations.StopRequests := by
  intro tag mask mode s ht
  refine ⟨fun h => ?_, fun h => ?_, fun h0 h16 ap => ?_⟩
  · have hbad : maskOk mask = false ∨ mode ≠ 0 := by
      rcases h with h | h | h
      · exact .inl (maskOk_false (.inl h))
      · exact .inl (maskOk_false (.inr h))
      · exact .inr h.1
    exact exec_answered_of_takes rfl rfl ht (fun _ _ => ownStopImmediate_range hbad _) rfl rfl
  · exact exec_answered_of_takes (f := mask) rfl rfl ht (fun _ _ => ownStopAtPassEnd_range (maskOk_false h) _) rfl rfl
  · intro removed stopped u
    have hu : u = forEach (State.stopChannel ap) (named mask) s := by
      rw [forEach_congr (Only.stopChannel ap) (named_nodup mask) (g := fun c t => State.stopOne ap c (s.channel c) t)
        (fun c _ t ht => by rw [stopChannel_eq, ht]), forEach_eq_foldl]
      rfl
    have hmoves := Moves.forEach (Moves.stopChannel ap) (named mask) s
    rw [hu]
    exact ⟨exec_stop ht (maskOk_true h0 h16) ap, hmoves.frame, stopChannels_channel ap (named_nodup mask) s⟩

end Sys2Proof.Machine

/-! ## ENQUEUE, the generators, FIRE, SET_INPUTS, FREEZE, RESET, ABORT_PLAN and SET_NOTICES -/

namespace Sys2Proof.Machine

-- The proofs are checked one after another, so that their memory is not asked for at once.
set_option Elab.async false

/-! ### The fields of an ENQUEUE (R47, R174) -/

theorem startOf_eq_none {b : Byte} : startOf b = none ↔ b ≠ 0x80 ∧ 8 ≤ b.toNat := by
  unfold startOf
  split
  · next h => simp [h]
  · next h =>
    split
    · next hl => exact ⟨nofun, fun hn => absurd hl (Nat.not_lt.mpr hn.2)⟩
    · next hl => exact ⟨fun _ => ⟨h, Nat.not_lt.mp hl⟩, fun _ => rfl⟩

theorem optTrig_eq_none {b : Byte} : optTrig b = none ↔ b ≠ 255 ∧ 8 ≤ b.toNat := by
  unfold optTrig
  split
  · next h => simp [h]
  · next h =>
    split
    · next hl => exact ⟨nofun, fun hn => absurd hl (Nat.not_lt.mpr hn.2)⟩
    · next hl => exact ⟨fun _ => ⟨h, Nat.not_lt.mp hl⟩, fun _ => rfl⟩

theorem optGen_eq_none {b : Byte} : optGen b = none ↔ b ≠ 255 ∧ 4 ≤ b.toNat := by
  unfold optGen
  split
  · next h => simp [h]
  · next h =>
    split
    · next hl => exact ⟨nofun, fun hn => absurd hl (Nat.not_lt.mpr hn.2)⟩
    · next hl => exact ⟨fun _ => ⟨h, Nat.not_lt.mp hl⟩, fun _ => rfl⟩

theorem optionsOf_eq {b : Byte} (h : b.toNat < 4) :
    optionsOf b = some (if b.toNat % 2 = 1 then .rest else .hold, decide (2 ≤ b.toNat)) := by
  unfold optionsOf
  generalize b.toNat = n at h
  interval_cases n <;> rfl

theorem optionsOf_isSome {b : Byte} {x : EndAction × Bool} (h : optionsOf b = some x) : b.toNat < 4 := by
  unfold optionsOf at h
  split at h
  case h_5 => cases h
  all_goals omega

/-- The ranges of the fields of an ENQUEUE. -/
def enqueueInRange (f : EnqueueFields) : Prop :=
  f.channel.toNat < 4 ∧ f.segment ≠ 0 ∧ f.segment ≠ 255 ∧ (f.start = 0x80 ∨ f.start.toNat < 8) ∧
    (f.untilTrig = 0xFF ∨ f.untilTrig.toNat < 8) ∧ (f.generator = 0xFF ∨ f.generator.toNat < 4) ∧ f.options.toNat < 4

theorem entryOf_none {f : EnqueueFields} (h : ¬enqueueInRange f) : entryOf f = none := by
  unfold entryOf
  split
  · next c st u g ea nt hc hst hu hg ho =>
    refine if_neg fun hid => h ?_
    obtain ⟨h0, h255⟩ := idOk_iff.mp hid
    refine ⟨fin4_eq_some.mp hc ▸ c.isLt, h0, h255, ?_, ?_, ?_, optionsOf_isSome ho⟩
    · by_contra hn
      rw [not_or, not_lt] at hn
      rw [startOf_eq_none.mpr hn] at hst
      cases hst
    · by_contra hn
      rw [not_or, not_lt] at hn
      rw [optTrig_eq_none.mpr hn] at hu
      cases hu
    · by_contra hn
      rw [not_or, not_lt] at hn
      rw [optGen_eq_none.mpr hn] at hg
      cases hg
  · rfl

theorem startOf_eq {b : Byte} {st : StartCond} (h : b = 0x80 ∨ b.toNat < 8) (hi : b = 0x80 → st = .immediate)
    (ht : ∀ h : b.toNat < 8, st = .onTrigger ⟨b.toNat, h⟩) : startOf b = some st := by
  by_cases h80 : b = 0x80
  · simp [startOf, h80, hi h80]
  · have hlt := h.resolve_left h80
    rw [startOf, if_neg h80, dif_pos hlt, ht hlt]

theorem optTrig_eq {b : Byte} {o : Option (Fin 8)} (h : b = 0xFF ∨ b.toNat < 8) (hn : b = 0xFF → o = none)
    (hs : ∀ h : b.toNat < 8, o = some ⟨b.toNat, h⟩) : optTrig b = some o := by
  by_cases h255 : b = 255
  · simp [optTrig, h255, hn h255]
  · have hlt := h.resolve_left h255
    rw [optTrig, if_neg h255, dif_pos hlt, hs hlt]

theorem optGen_eq {b : Byte} {o : Option (Fin 4)} (h : b = 0xFF ∨ b.toNat < 4) (hn : b = 0xFF → o = none)
    (hs : ∀ h : b.toNat < 4, o = some ⟨b.toNat, h⟩) : optGen b = some o := by
  by_cases h255 : b = 255
  · simp [optGen, h255, hn h255]
  · have hlt := h.resolve_left h255
    rw [optGen, if_neg h255, dif_pos hlt, hs hlt]

theorem ownEnqueue_refused {f : EnqueueFields} {c : Fin 4} {e : Entry} {st : Status} (h : entryOf f = some (c, e)) {s : State}
    (hc : enqueueCheck c e s = some st) : ownEnqueue f s = .refused s st := by
  simp [ownEnqueue, h, hc]

theorem ownEnqueue_ok {f : EnqueueFields} {c : Fin 4} {e : Entry} (h : entryOf f = some (c, e)) {s : State}
    (hc : enqueueCheck c e s = none) : ownEnqueue f s = .reply (s.appendEntry c e) .ok
      (u8 ((s.channel c).queue.length + 1) ++ u8 ((s.appendEntry c e).channel c).state.num) := by
  simp [ownEnqueue, h, hc]

/-- The checks of an ENQUEUE whose queue has room and whose segment has a record. -/
theorem enqueueCheck_segment {c : Fin 4} {e : Entry} {s : State} (hl : (s.channel c).queue.length < 16) {g : Segment}
    (hg : s.segment? e.segment = some g) : enqueueCheck c e s =
      if g.state = .failed then some .segmentState else if g.retiring then some .retiring else none := by
  simp [enqueueCheck, Config.queueDepth, Nat.not_le.mpr hl, hg]

theorem Moves.appendEntry (s : State) (c : Fin 4) (e : Entry) :
    (s.appendEntry c e).link = s.link ∧ (s.appendEntry c e).table = s.table := by
  unfold State.appendEntry
  dsimp only
  split
  · rw [(Moves.evaluateHead _ c).frame]
    exact ⟨rfl, rfl⟩
  · exact ⟨rfl, rfl⟩

/-- Settles O24: the fields, the checks in order, the append. -/
theorem enqueueRequest : Obligations.EnqueueRequest := by
  intro tag f s ht run refused inRange
  refine ⟨fun h => ?_, fun c e h hc he hsi hst hun hus hgn hgs => ?_⟩
  · refine exec_answered_of_takes rfl rfl ht (fun l t => ?_) rfl rfl
    simp [ownEnqueue, entryOf_none h, Owned.refused]
  obtain ⟨-, h0, h255, hstart, huntil, hgen, hopt⟩ := h
  have hentry : entryOf f = some (c, e) := by
    have : fin4 f.channel = some c := fin4_eq_some.mpr hc.symm
    simp only [entryOf, this, startOf_eq hstart hsi hst, optTrig_eq huntil hun hus, optGen_eq hgen hgn hgs, optionsOf_eq hopt,
      idOk_iff.mpr ⟨h0, h255⟩, if_true]
    exact congrArg (fun e => some (c, e)) he.symm
  have hseg : e.segment = f.segment := congrArg Entry.segment he
  rw [← hseg]
  refine ⟨fun hl => ?_, fun hl hn => ?_, fun g hl hg => ⟨fun hf => ?_, fun hf hr => ?_, fun hf hr => ?_⟩⟩
  · refine exec_answered_of_takes rfl rfl ht (fun l t => ownEnqueue_refused (s := s.withFront l t) hentry ?_) rfl rfl
    simp [enqueueCheck, Config.queueDepth, hl]
  · refine exec_answered_of_takes rfl rfl ht (fun l t => ownEnqueue_refused (s := s.withFront l t) hentry ?_) rfl rfl
    simp [enqueueCheck, Config.queueDepth, Nat.not_le.mpr hl, hn]
  · refine exec_answered_of_takes rfl rfl ht (fun l t => ownEnqueue_refused (s := s.withFront l t) hentry ?_) rfl rfl
    rw [enqueueCheck_segment (s := s.withFront l t) hl hg, if_pos hf]
  · refine exec_answered_of_takes rfl rfl ht (fun l t => ownEnqueue_refused (s := s.withFront l t) hentry ?_) rfl rfl
    rw [enqueueCheck_segment (s := s.withFront l t) hl hg, if_neg hf, if_pos hr]
  · have hcheck : ∀ l t, enqueueCheck c e (s.withFront l t) = none := fun l t => by
      rw [enqueueCheck_segment (s := s.withFront l t) hl hg, if_neg hf, if_neg (by simp [hr])]
    obtain ⟨hlink, htable⟩ := Moves.appendEntry s c e
    refine exec_answered_of_takes (u := s.appendEntry c e) rfl rfl ht (fun l t => ?_) hlink htable
    rw [ownEnqueue_ok hentry (hcheck l t), State.withFront_appendEntry]
    rfl

/-! ### Generators (R59, R60, R64, R65) -/

/-- Generators changed one after another. -/
theorem forEach_modGenerator (f : Generator → Generator) {xs : List (Fin 4)} (hx : xs.Nodup) (s : State) :
    (∃ gs, forEach (fun g s => s.modGenerator g f) xs s = { s with generators := gs }) ∧
    ∀ g, (forEach (fun g s => s.modGenerator g f) xs s).generator g = if g ∈ xs then f (s.generator g) else s.generator g := by
  induction xs generalizing s with
  | nil => exact ⟨⟨s.generators, rfl⟩, fun g => by simp [forEach]⟩
  | cons x xs ih =>
    obtain ⟨hx', hxs⟩ := List.nodup_cons.mp hx
    obtain ⟨⟨gs, hgs⟩, hg⟩ := ih hxs (s.modGenerator x f)
    refine ⟨⟨gs, hgs⟩, fun g => (hg g).trans ?_⟩
    by_cases he : g = x
    · subst he
      simp [hx', State.modGenerator]
    · have hother : (s.modGenerator x f).generator g = s.generator g := State.generator_setGenerator_other s he _
      simp [he, hother]

theorem maskOf_getLsbD (p : Fin 4 → Bool) (g : Fin 4) : (maskOf p).getLsbD g.val = p g := by
  unfold maskOf
  match g with
  | 0 => cases p 0 <;> cases p 1 <;> cases p 2 <;> cases p 3 <;> rfl
  | 1 => cases p 0 <;> cases p 1 <;> cases p 2 <;> cases p 3 <;> rfl
  | 2 => cases p 0 <;> cases p 1 <;> cases p 2 <;> cases p 3 <;> rfl
  | 3 => cases p 0 <;> cases p 1 <;> cases p 2 <;> cases p 3 <;> rfl

theorem maskOf_lt (p : Fin 4 → Bool) : (maskOf p).toNat < 16 := by
  unfold maskOf
  cases p 0 <;> cases p 1 <;> cases p 2 <;> cases p 3 <;> decide

/-- A HALTED generator begins to run. -/
def Generator.started (x : Generator) : Generator := if x.running then x else { x with running := true, elapsed := 0 }

/-- A RUNNING generator halts. -/
def Generator.halted (x : Generator) : Generator := if x.running then { x with running := false, elapsed := 0 } else x

theorem ownRunRates_ok {m : Byte} (h : maskOk m = true) (s : State) : ownRunRates m s =
    .reply (forEach (fun g s => s.modGenerator g Generator.started) (named m) s) .ok
      [s.maskOfNamed m (fun x => !x.running), s.maskOfNamed m (·.running)] := by
  simp only [ownRunRates, h]
  rfl

theorem ownHaltRates_ok {m : Byte} (h : maskOk m = true) (s : State) : ownHaltRates m s =
    .reply (forEach (fun g s => s.modGenerator g Generator.halted) (named m) s) .ok
      (s.maskOfNamed m (·.running) :: (named m).flatMap (fun g => u32 (s.generator g).ticks.toNat)) := by
  simp only [ownHaltRates, h]
  rfl

theorem forEach_modGenerator_behind (f : Generator → Generator) (xs : List (Fin 4)) :
    BehindTheTable (forEach (fun g s => s.modGenerator g f) xs) :=
  forEach_behind (fun _ _ _ _ => rfl) xs

/-- Settles O34. -/
theorem runAndHaltRates : Obligations.RunAndHaltRates := by
  intro tag mask s ht
  refine ⟨fun h => ⟨?_, ?_⟩, fun h0 h16 => ⟨?_, ?_⟩⟩
  · refine exec_answered_of_takes rfl rfl ht (fun l t => ?_) rfl rfl
    simp [ownRunRates, maskOk_false h, Owned.refused]
  · refine exec_answered_of_takes rfl rfl ht (fun l t => ?_) rfl rfl
    simp [ownHaltRates, maskOk_false h, Owned.refused]
  · have hm := maskOk_true h0 h16
    obtain ⟨⟨gs, hgs⟩, hg⟩ := forEach_modGenerator Generator.started (named_nodup mask) s
    refine ⟨forEach (fun g s => s.modGenerator g Generator.started) (named mask) s, s.maskOfNamed mask (fun x => !x.running),
      s.maskOfNamed mask (·.running), ?_, by rw [hgs], fun g => ?_, maskOf_lt _, maskOf_lt _, fun g => maskOf_getLsbD _ g,
      fun g => maskOf_getLsbD _ g⟩
    · refine exec_answered_of_takes rfl rfl ht (fun l t => ?_) (by rw [hgs]) (by rw [hgs])
      rw [ownRunRates_ok hm, forEach_modGenerator_behind]
      rfl
    · rw [hg, Generator.started]
      simp only [mem_named]
      cases mask.getLsbD g.val <;> cases (s.generator g).running <;> rfl
  · have hm := maskOk_true h0 h16
    obtain ⟨⟨gs, hgs⟩, hg⟩ := forEach_modGenerator Generator.halted (named_nodup mask) s
    refine ⟨forEach (fun g s => s.modGenerator g Generator.halted) (named mask) s, s.maskOfNamed mask (·.running), ?_, by rw [hgs],
      fun g => ?_, maskOf_lt _, fun g => maskOf_getLsbD _ g⟩
    · refine exec_answered_of_takes rfl rfl ht (fun l t => ?_) (by rw [hgs]) (by rw [hgs])
      rw [ownHaltRates_ok hm, forEach_modGenerator_behind]
      rfl
    · rw [hg, Generator.halted]
      simp only [mem_named]
      cases mask.getLsbD g.val <;> cases (s.generator g).running <;> rfl

theorem lastInstant_eq (s : State) : s.lastInstant =
    max (max (s.generator 0).tickedAt (s.generator 1).tickedAt) (max (s.generator 2).tickedAt (s.generator 3).tickedAt) := by
  simp [State.lastInstant, allChannels, max_assoc]

theorem mem_listeners {s : State} {g c : Fin 4} : c ∈ s.listeners g ↔
    ((s.channel c).state ≠ .stopped ∧ (s.channel c).activeGen = g) ∨ (s.channel c).m0.pulse = some g ∨
      (s.channel c).m1.pulse = some g := by
  unfold State.listeners
  rw [List.mem_filter]
  have hc : c ∈ allChannels := by fin_cases c <;> simp [allChannels]
  simp [hc, Channel.playsOn, Channel.pulsesOn, Channel.isRunning]

/-- Settles O35. -/
theorem tickIsMade : Obligations.TickIsMade := by
  intro g together s ha tickedAt last instant
  have hexec : exec (.tick ⟨g, together⟩) s = .next (s.makeTick ⟨g, together⟩).arbitrate := congrArg Host.Outcome.next (event_alive ha _)
  have hinstant : s.instantOf ⟨g, together⟩ = instant := by
    unfold State.instantOf
    rw [lastInstant_eq]
  refine ⟨fun hr => by rw [hexec, State.makeTick]; simp [hr], fun hr =>
    ⟨(s.listeners g).map (fun c => ⟨g, c, (s.generator g).ticks + 1, instant⟩), ?_, ?_, fun d => ?_⟩⟩
  · rw [hexec, State.makeTick, ← hinstant]
    simp only [hr, if_true, State.modGenerator]
    rfl
  · rw [List.map_map]
    exact (List.map_id _).symm ▸ List.Nodup.filter _ (by decide)
  · rw [List.mem_map, ← mem_listeners]
    constructor
    · rintro ⟨c, hc, rfl⟩
      exact ⟨rfl, rfl, rfl, hc⟩
    · obtain ⟨gen, chan, tick, at'⟩ := d
      rintro ⟨hg, htick, hat, hc⟩
      exact ⟨chan, hc, Delivery.mk.injEq .. ▸ ⟨hg.symm, rfl, htick.symm, hat.symm⟩⟩

/-! ### SET_INPUTS and FIRE (R75, R77) -/

/-- Settles O36. -/
theorem setInputs : Obligations.SetInputs := by
  intro tag f s ht run
  refine ⟨fun h => ?_, fun h1 h2 h3 => ?_⟩
  · have hbad : inputsOk f = false := decide_eq_false fun ⟨h1, h2, h3⟩ => by
      simp only [Config.minDivider, Config.maxConfirm] at h1 h3
      omega
    refine exec_answered_of_takes rfl rfl ht (fun l t => ?_) rfl rfl
    simp [ownSetInputs, hbad, Owned.refused]
  · have hok : inputsOk f = true := decide_eq_true ⟨h1, h2, h3⟩
    refine exec_answered_of_takes rfl rfl ht (fun l t => ?_) rfl rfl
    simp only [ownSetInputs, hok]
    rfl

/-- The trigger as its firing leaves it: one more firing, the confirmed levels captured (R76). -/
def State.fired (s : State) (k : Fin 8) : Trigger :=
  { s.trigger k with fires := (s.trigger k).fires + 1, captured := s.trig.confirmed }

/-- A firing moves the channels once the trigger has counted it. -/
theorem fireTrigger_moves (k : Fin 8) (ctx : TickContext) (s : State) :
    Moves (s.setTrigger k (s.fired k)) (State.fireTrigger k ctx s) := by
  have h := Moves.forEach (Moves.takeFiring k ctx) allChannels (s.setTrigger k (s.fired k))
  unfold State.fireTrigger
  dsimp only
  split
  · exact h.trans (Moves.notify ..)
  · exact h

/-- The trigger that fires: its count and its captured levels, nothing else of it (R76). -/
theorem fireTrigger_trigger (k : Fin 8) (ctx : TickContext) (s : State) (j : Fin 8) :
    (State.fireTrigger k ctx s).trigger j = (s.setTrigger k (s.fired k)).trigger j :=
  (fireTrigger_moves k ctx s).trigger j

theorem fin8_eq_none {b : Byte} (h : 7 < b.toNat) : fin8 b = none := by
  simp [fin8]
  omega

theorem ownFire_ok {b : Byte} {k : Fin 8} (hk : b.toNat = k.val) {s : State} (h : (s.trigger k).mode ≠ .off) : ownFire b s =
    .reply (s.fireTrigger k none) .ok (u32 ((s.trigger k).fires + 1).toNat ++ [s.trig.confirmed]) := by
  simp only [ownFire, fin8_eq_some.mpr hk, h, if_false, fireTrigger_trigger, State.trigger_setTrigger_self]
  rfl

theorem fireTrigger_front (k : Fin 8) (ctx : TickContext) (s : State) :
    (State.fireTrigger k ctx s).link = s.link ∧ (State.fireTrigger k ctx s).table = s.table := by
  exact ⟨(fireTrigger_moves k ctx s).link, (fireTrigger_moves k ctx s).table⟩

/-- Settles O38. -/
theorem fireRequest : Obligations.FireRequest := by
  intro tag b s ht run
  refine ⟨fun h => ?_, fun k hk => ⟨fun hoff => ?_, fun hon => ?_⟩⟩
  · refine exec_answered_of_takes rfl rfl ht (fun l t => ?_) rfl rfl
    simp [ownFire, fin8_eq_none h, Owned.refused]
  · refine exec_answered_of_takes rfl rfl ht (fun l t => ?_) rfl rfl
    simp [ownFire, fin8_eq_some.mpr hk, hoff, Owned.refused]
  · obtain ⟨hl, htab⟩ := fireTrigger_front k none s
    refine exec_answered_of_takes rfl rfl ht (fun l t => ?_) hl htab
    rw [ownFire_ok (s := s.withFront l t) hk hon, State.withFront_fireTrigger]
    rfl

/-! ### FREEZE (R93) -/

theorem fin32_eq_some {b : Byte} {n : Fin 32} : fin32 b = some n ↔ b.toNat = n.val := by
  unfold fin32
  split
  · simp [Fin.ext_iff]
  · have hne : b.toNat ≠ n.val := by omega
    simp [hne]

theorem fin32_eq_none {b : Byte} : fin32 b = none ↔ 32 ≤ b.toNat := by
  simp only [fin32, dite_eq_right_iff, reduceCtorEq, imp_false]
  omega

/-- The reply of a frozen slot. -/
theorem lockData_frozen {b : Byte} {n : Fin 32} (hn : b.toNat = n.val) {x : Slot} (hf : x.freeze = true) :
    lockData n x = [b, if x.lock = .locked then 1 else 0, 0, 2] := by
  simp only [lockData, u8_of_toNat_eq hn, setClear, hf, Slot.effective, if_true, Effective.num]
  cases x.lock <;> rfl

theorem ownFreeze_eq {b : Byte} {n : Fin 32} (hn : b.toNat = n.val) (s : State) : ownFreeze b s =
    if (s.slot n).freeze then .reply s .ok (lockData n (s.slot n))
    else if (s.slot n).lock = .unlocked then .refused s .slotLocked
    else .reply (s.setSlot n { s.slot n with freeze := true }) .ok (lockData n { s.slot n with freeze := true }) := by
  simp [ownFreeze, fin32_eq_some.mpr hn]

/-- Settles O48. -/
theorem freezeRequest : Obligations.FreezeRequest := by
  intro tag b s ht run
  refine ⟨fun h => ?_, ?_⟩
  · refine exec_answered_of_takes rfl rfl ht (fun l t => ?_) rfl rfl
    simp [ownFreeze, fin32_eq_none.mpr h, Owned.refused]
  intro n hn x
  refine ⟨fun hf => ?_, fun hf hu => ?_, fun hf hl => ?_⟩
  · refine exec_answered_of_takes rfl rfl ht (fun l t => ?_) rfl rfl
    rw [← lockData_frozen hn hf]
    exact (ownFreeze_eq hn _).trans (if_pos hf)
  · refine exec_answered_of_takes rfl rfl ht (fun l t => ?_) rfl rfl
    exact (ownFreeze_eq hn _).trans ((if_neg (by simp [x, hf])).trans (if_pos hu))
  · refine exec_answered_of_takes rfl rfl ht (fun l t => ?_) rfl rfl
    have hne : ¬x.lock = .unlocked := by simp [hl]
    have hdata : lockData n { x with freeze := true } = [b, 1, 0, 2] := (lockData_frozen hn rfl).trans (by simp [hl])
    refine (ownFreeze_eq hn _).trans ((if_neg (by simp [x, hf])).trans ((if_neg hne).trans ?_))
    exact congrArg (Owned.reply _ .ok) hdata

/-! ### RESET and ABORT_PLAN (R136, R139) -/

/-- A request exempt from STARTING that is taken is answered as its owner says. -/
theorem exec_answered_of_takesExempt {α : Type} {i : Instr} {tag code : Byte} {f : α} {owner : α → State → Owned} {s u : State}
    {st : Status} {data : List Byte} (hx : exec i s = .next (s.receiveFrame i))
    (hd : dispatch i = onRequest tag code true (.fields f) owner) (ht : s.takesExempt tag = true)
    (ho : ∀ l t, owner f (s.withFront l t) = .reply (u.withFront l t) st data)
    (hul : u.link = s.link) (hut : u.table = s.table) : exec i s = .next (u.answered tag code st data) := by
  obtain ⟨hl, ha⟩ : s.listening = true ∧ s.admits tag true = true := by simpa [State.takesExempt] using ht
  rw [hx, exec_answered hd hl ha ho hul hut]

theorem ownAbortPlan_refused {s : State} (h : s.startup.phase ≠ .plan) : ownAbortPlan () s = .refused s .notStarting := by
  unfold ownAbortPlan
  split
  · next hp => exact absurd hp h
  · rfl
  · rfl

theorem ownAbortPlan_ok {s : State} {i : Nat} (h : s.startup.phase = .plan) (hi : s.startup.step = some i) :
    ownAbortPlan () s = .reply (s.stopPlanChannels.endStarting (.aborted i)) .ok (u8 i ++ [s.startup.planStarted.setWidth 8]) := by
  simp [ownAbortPlan, h, hi]

theorem stopPlanChannels_moves (s : State) : Moves s s.stopPlanChannels := Moves.forEach Moves.stopNow _ s

theorem State.withFront_endStarting (s : State) (r : PlanResult) (l : Link) (t : Table) :
    (s.withFront l t).endStarting r = (s.endStarting r).withFront l t := rfl

/-- Settles O51. -/
theorem resetAndAbortPlan : Obligations.ResetAndAbortPlan := by
  intro tag s
  refine ⟨fun ht => exec_answered_of_takes rfl rfl ht (fun _ _ => rfl) rfl rfl,
    fun ht hp => exec_answered_of_takesExempt rfl rfl ht (fun l t => ownAbortPlan_refused (s := s.withFront l t) hp) rfl rfl, ?_⟩
  intro i ht hp hi u
  have hu : u = s.stopPlanChannels := (forEach_eq_foldl State.stopNow s.startup.startedChannels s).symm
  have hmoves := stopPlanChannels_moves s
  rw [hu]
  refine ⟨exec_answered_of_takesExempt (f := ()) rfl rfl ht (fun l t => ?_) hmoves.link hmoves.table, ?_⟩
  · rw [ownAbortPlan_ok (s := s.withFront l t) hp hi, State.withFront_stopPlanChannels, State.withFront_endStarting]
    rfl
  · show s.stopPlanChannels.jobs = s.jobs
    rw [hmoves.frame]

/-! ### SET_NOTICES (R191) -/

/-- Settles O52. -/
theorem setNotices : Obligations.SetNotices := by
  intro tag f s ht run
  refine ⟨fun h => ?_, ?_⟩
  · refine exec_answered_of_takes rfl rfl ht (fun l t => ?_) rfl rfl
    simp [ownSetNotices, Config.maxWindow, h, Owned.refused]
  intro hw he enable
  refine exec_answered_of_takes rfl rfl ht (fun l t => ?_) rfl rfl
  have hno : ¬(Config.maxWindow < f.window.toNat ∨ 512 ≤ f.enable.toNat) := by simp [Config.maxWindow]; omega
  have hcount : s.notices.records.countP (fun r => r.seq?.isSome) = s.notices.records.countP (fun r => decide (r.state ≠ .new)) := by
    refine List.countP_congr fun r _ => ?_
    cases hs : r.state <;> simp [Notice.seq?, hs]
  have hwidth : (enable.setWidth 16).toNat = enable.toNat := by
    simp only [BitVec.toNat_setWidth]
    have := enable.isLt
    omega
  rw [ownSetNotices, if_neg hno]
  simp only [Notices.report, State.withFront_notices, hcount, halfBytes, hwidth, u8_of_toNat_eq rfl]
  rfl

end Sys2Proof.Machine

/-! ## The store requests: SAVE, LOAD, ERASE, SET_LOCK, SAVE_PLAN and CLEAR_PLAN -/

namespace Sys2Proof.Machine

-- The proofs are checked one after another, so that their memory is not asked for at once.
set_option Elab.async false

/-! ### A store request that becomes a job (R105, R108, R169) -/

/-- A store request that is taken and accepted: its entry is AWAITING. -/
theorem exec_awaited_of_takes {α : Type} {i : Instr} {tag code : Byte} {f : α} {owner : α → State → Owned} {s u : State}
    (hx : exec i s = .next (s.receiveFrame i)) (hd : dispatch i = onRequest tag code false (.fields f) owner)
    (ht : s.takes tag = true) (ho : ∀ l t, owner f (s.withFront l t) = .deferred (u.withFront l t))
    (hul : u.link = s.link) (hut : u.table = s.table) : exec i s = .next (u.awaited tag code) := by
  obtain ⟨hl, ha⟩ : s.listening = true ∧ s.admits tag false = true := by simpa [State.takes] using ht
  rw [hx, exec_awaited hd hl ha ho hul hut]

/-- A request that is taken and refused by its owner. -/
theorem exec_refused_of_takes {α : Type} {i : Instr} {tag code : Byte} {f : α} {owner : α → State → Owned} {s : State}
    {st : Status} (hx : exec i s = .next (s.receiveFrame i)) (hd : dispatch i = onRequest tag code false (.fields f) owner)
    (ht : s.takes tag = true) (ho : ∀ l t, owner f (s.withFront l t) = .refused (s.withFront l t) st) :
    exec i s = .next (s.answered tag code st []) :=
  exec_answered_of_takes hx hd ht ho rfl rfl

theorem accept_frame (s : State) (w : Work) (o : JobOrigin) (b : Nat) :
    s.accept w o b = { s with jobs := (s.accept w o b).jobs, store := (s.accept w o b).store } :=
  (select_frame _).1

theorem acceptLoad_frame (s : State) (n : Fin 32) (id : Byte) (o : JobOrigin) (b : Nat) :
    s.acceptLoad n id o b = { s with jobs := (s.acceptLoad n id o b).jobs, store := (s.acceptLoad n id o b).store } := by
  unfold State.acceptLoad
  split
  · rfl
  · exact accept_frame ..

theorem accept_front (s : State) (w : Work) (o : JobOrigin) (b : Nat) :
    (s.accept w o b).link = s.link ∧ (s.accept w o b).table = s.table := by
  rw [accept_frame]
  exact ⟨rfl, rfl⟩

theorem acceptLoad_front (s : State) (n : Fin 32) (id : Byte) (o : JobOrigin) (b : Nat) :
    (s.acceptLoad n id o b).link = s.link ∧ (s.acceptLoad n id o b).table = s.table := by
  rw [acceptLoad_frame]
  exact ⟨rfl, rfl⟩

/-! ### The checks on the list and on the slot (R92, R105) -/

section Checks
variable {s : State} {n : Fin 32}

theorem jobsFull_of_le (h : 4 ≤ s.jobs.length) : s.jobsFull = true := decide_eq_true h

theorem jobsFull_of_lt (h : s.jobs.length < 4) : s.jobsFull = false := decide_eq_false (Nat.not_le.mpr h)

theorem slotBusy_true (h : ∃ j ∈ s.jobs, j.work.slot? = some n) : s.slotBusy n = true := by
  simpa [State.slotBusy, jobNaming] using h

theorem slotBusy_false (h : ∀ j ∈ s.jobs, j.work.slot? ≠ some n) : s.slotBusy n = false := by
  simpa [State.slotBusy, jobNaming] using h

theorem planJob_true (h : ∃ j ∈ s.jobs, j.work.isPlan = true) : (planJob s.jobs).isSome = true := by
  simpa [planJob] using h

theorem planJob_false (h : ¬∃ j ∈ s.jobs, j.work.isPlan = true) : (planJob s.jobs).isSome = false := by
  simpa [planJob] using h

theorem writable_busy (h : ∃ j ∈ s.jobs, j.work.slot? = some n) : s.writable n = some .slotBusy := by
  simp [State.writable, slotBusy_true h]

theorem writable_frozen (h : ∀ j ∈ s.jobs, j.work.slot? ≠ some n) (hf : (s.slot n).freeze = true) :
    s.writable n = some .slotFrozen := by
  simp [State.writable, slotBusy_false h, Slot.writeCheck, Slot.effective, hf]

theorem writable_locked (h : ∀ j ∈ s.jobs, j.work.slot? ≠ some n) (hf : (s.slot n).freeze = false)
    (hl : (s.slot n).lock = .locked) : s.writable n = some .slotLocked := by
  simp [State.writable, slotBusy_false h, Slot.writeCheck, Slot.effective, hf, hl]

theorem writable_open (h : ∀ j ∈ s.jobs, j.work.slot? ≠ some n) (hf : (s.slot n).freeze = false)
    (hl : (s.slot n).lock = .unlocked) : s.writable n = none := by
  simp [State.writable, slotBusy_false h, Slot.writeCheck, Slot.effective, hf, hl]

end Checks

/-! ### SAVE (R105, R106) -/

section Save
variable {s : State} {n : Fin 32} {tag : Byte} {f : SaveFields} {st : Status} {g : Segment}

theorem labelOk_iff {l : List Byte} : labelOk l = true ↔ l.length ≤ 12 ∧ ∀ c ∈ l, 0x20 ≤ c.toNat ∧ c.toNat ≤ 0x7E := by
  simp only [labelOk, Bool.and_eq_true, decide_eq_true_eq, List.all_eq_true]
  rfl

theorem saveOf_eq_some : saveOf f = some n ↔
    f.id ≠ 0 ∧ f.id ≠ 255 ∧ f.label.length ≤ 12 ∧ (∀ c ∈ f.label, 0x20 ≤ c.toNat ∧ c.toNat ≤ 0x7E) ∧ f.slot.toNat = n.val := by
  unfold saveOf
  split
  · next h =>
    rw [Bool.and_eq_true, idOk_iff, labelOk_iff] at h
    obtain ⟨⟨h0, h255⟩, hlen, hchars⟩ := h
    rw [fin32_eq_some]
    exact ⟨fun hn => ⟨h0, h255, hlen, hchars, hn⟩, fun ⟨_, _, _, _, hn⟩ => hn⟩
  · next h =>
    rw [Bool.and_eq_true, idOk_iff, labelOk_iff] at h
    exact ⟨nofun, fun ⟨h0, h255, hlen, hchars, _⟩ => absurd ⟨⟨h0, h255⟩, hlen, hchars⟩ h⟩

theorem ownSave_jobsFull (h : s.jobsFull = true) : ownSave tag f s = .refused s .jobsFull := by
  simp [ownSave, h]

theorem ownSave_range (h : s.jobsFull = false) (hn : saveOf f = none) : ownSave tag f s = .refused s .range := by
  simp [ownSave, h, hn]

theorem ownSave_slot (h : s.jobsFull = false) (hn : saveOf f = some n) (hw : s.writable n = some st) :
    ownSave tag f s = .refused s st := by
  simp [ownSave, h, hn, hw]

theorem ownSave_segment (h : s.jobsFull = false) (hn : saveOf f = some n) (hw : s.writable n = none)
    (hc : s.saveCheck n f.id = .error st) : ownSave tag f s = .refused s st := by
  simp [ownSave, h, hn, hw, hc]

theorem ownSave_ok (h : s.jobsFull = false) (hn : saveOf f = some n) (hw : s.writable n = none)
    (hc : s.saveCheck n f.id = .ok g) : ownSave tag f s =
      .deferred ((s.takeRef f.id).accept (.save n f.id f.label) (.request tag false) (blocksFor g.length)) := by
  simp [ownSave, h, hn, hw, hc]

end Save

/-- Settles O40: one clause for each outcome of the checks, in their order. -/
theorem saveRequest : Obligations.SaveRequest := by
  intro tag f s ht run refused inRange
  refine ⟨fun hfull => exec_refused_of_takes rfl rfl ht fun l t => ownSave_jobsFull (s := s.withFront l t) (jobsFull_of_le hfull),
    fun hroom hbad => ?_, fun n hroom hin hn => ?_⟩
  · have hnone : saveOf f = none := Option.eq_none_iff_forall_ne_some.mpr fun n hs => by
      obtain ⟨h0, h255, hlen, hchars, hn⟩ := saveOf_eq_some.mp hs
      exact hbad ⟨hn ▸ n.isLt, h0, h255, hlen, hchars⟩
    exact exec_refused_of_takes rfl rfl ht fun l t => ownSave_range (s := s.withFront l t) (jobsFull_of_lt hroom) hnone
  obtain ⟨-, h0, h255, hlen, hchars⟩ := hin
  have hslot : saveOf f = some n := saveOf_eq_some.mpr ⟨h0, h255, hlen, hchars, hn⟩
  have refuse {st : Status} (hw : s.writable n = some st) : run = refused st :=
    exec_refused_of_takes rfl rfl ht fun l t => ownSave_slot (s := s.withFront l t) (jobsFull_of_lt hroom) hslot hw
  have refuse' {st : Status} (hw : s.writable n = none) (hc : s.saveCheck n f.id = .error st) : run = refused st := by
    refine exec_refused_of_takes rfl rfl ht fun l t => ownSave_segment (s := s.withFront l t) (jobsFull_of_lt hroom) hslot hw ?_
    rw [← hc]
    rfl
  intro x
  refine ⟨fun hb => refuse (writable_busy hb), fun hb => ⟨fun hf => refuse (writable_frozen hb hf),
    fun hf hl => refuse (writable_locked hb hf hl), fun hf hl => ?_⟩⟩
  have hw := writable_open hb hf hl
  refine ⟨fun hg => refuse' hw ?_, fun g hg => ⟨fun hs => refuse' hw ?_, fun hready hret =>
    ⟨fun hblank => refuse' hw ?_, fun hblank hworn => refuse' hw ?_, fun hblank hworn => ?_⟩⟩⟩
  · simp [State.saveCheck, hg]
  · simp only [State.saveCheck, hg, if_pos hs]
  · simp [State.saveCheck, hg, hready, hret, hblank, x]
  · simp [State.saveCheck, hg, hready, hret, hblank, x, Config.saveLimit, hworn]
  · have hc : s.saveCheck n f.id = .ok g := by
      simp [State.saveCheck, hg, hready, hret, hblank, x, Config.saveLimit, Nat.not_le.mpr hworn]
    obtain ⟨hlink, htable⟩ := accept_front (s.takeRef f.id) (.save n f.id f.label) (.request tag false) ((g.length + 63) / 64)
    refine exec_awaited_of_takes rfl rfl ht (fun l t => ?_) hlink htable
    rw [ownSave_ok (s := s.withFront l t) (g := g) (jobsFull_of_lt hroom) hslot hw (by rw [← hc]; rfl)]
    rw [State.withFront_takeRef, State.withFront_accept]
    rfl

/-! ### LOAD (R105, R107) -/

section Load
variable {s : State} {n : Fin 32} {tag : Byte} {f : LoadFields} {o : JobOrigin} {st : Status}

theorem loadOf_eq_some : loadOf f = some n ↔ f.id ≠ 0 ∧ f.id ≠ 255 ∧ f.slot.toNat = n.val := by
  unfold loadOf
  split
  · next h =>
    obtain ⟨h0, h255⟩ := idOk_iff.mp h
    rw [fin32_eq_some]
    exact ⟨fun hn => ⟨h0, h255, hn⟩, fun ⟨_, _, hn⟩ => hn⟩
  · next h => exact ⟨nofun, fun ⟨h0, h255, _⟩ => absurd (idOk_iff.mpr ⟨h0, h255⟩) h⟩

theorem offerLoad_jobsFull (h : s.jobsFull = true) : s.offerLoad f o = .error .jobsFull := by
  simp [State.offerLoad, h]

theorem offerLoad_range (h : s.jobsFull = false) (hn : loadOf f = none) : s.offerLoad f o = .error .range := by
  simp [State.offerLoad, h, hn]

theorem offerLoad_busy (h : s.jobsFull = false) (hn : loadOf f = some n) (hb : s.slotBusy n = true) :
    s.offerLoad f o = .error .slotBusy := by
  simp [State.offerLoad, h, hn, hb]

theorem offerLoad_check (h : s.jobsFull = false) (hn : loadOf f = some n) (hb : s.slotBusy n = false)
    (hc : s.loadCheck n f.id = some st) : s.offerLoad f o = .error st := by
  simp [State.offerLoad, h, hn, hb, hc]

theorem offerLoad_ok (h : s.jobsFull = false) (hn : loadOf f = some n) (hb : s.slotBusy n = false)
    (hc : s.loadCheck n f.id = none) : s.offerLoad f o = .ok ((s.createSegment f.id .loading (s.slot n).length (s.slot n).marks 1
      (.slot n)).acceptLoad n f.id o (blocksFor (s.slot n).length)) := by
  simp [State.offerLoad, h, hn, hb, hc]

theorem ownLoad_error (h : s.offerLoad f (.request tag false) = .error st) : ownLoad tag f s = .refused s st := by
  simp [ownLoad, h]

theorem ownLoad_ok {u : State} (h : s.offerLoad f (.request tag false) = .ok u) : ownLoad tag f s = .deferred u := by
  simp [ownLoad, h]

theorem loadCheck_stored (h : (s.slot n).stored = .stored) (id : Byte) : s.loadCheck n id = createCheck id (s.slot n).length s := by
  simp [State.loadCheck, h]

end Load

/-- Settles O41: one clause for each outcome of the checks, in their order. -/
theorem loadRequest : Obligations.LoadRequest := by
  intro tag f s ht run refused inRange
  have refuse {st : Status} (h : ∀ l t, (s.withFront l t).offerLoad f (.request tag false) = .error st) : run = refused st :=
    exec_refused_of_takes rfl rfl ht fun l t => ownLoad_error (h l t)
  refine ⟨fun hfull => refuse fun l t => offerLoad_jobsFull (jobsFull_of_le hfull), fun hroom hbad => ?_, fun n hroom hin hn => ?_⟩
  · have hnone : loadOf f = none := Option.eq_none_iff_forall_ne_some.mpr fun n hs => by
      obtain ⟨h0, h255, hn⟩ := loadOf_eq_some.mp hs
      exact hbad ⟨hn ▸ n.isLt, h0, h255⟩
    exact refuse fun l t => offerLoad_range (jobsFull_of_lt hroom) hnone
  obtain ⟨-, h0, h255⟩ := hin
  have hslot : loadOf f = some n := loadOf_eq_some.mpr ⟨h0, h255, hn⟩
  intro x k
  refine ⟨fun hb => refuse fun l t => offerLoad_busy (jobsFull_of_lt hroom) hslot (slotBusy_true hb), fun hb => ?_⟩
  have hcheck {st : Status} (hc : s.loadCheck n f.id = some st) : run = refused st :=
    refuse fun l t => offerLoad_check (s := s.withFront l t) (jobsFull_of_lt hroom) hslot (slotBusy_false hb) (by rw [← hc]; rfl)
  refine ⟨fun hs => hcheck (if_pos hs), fun hs => ?_⟩
  have hstored (id : Byte) := loadCheck_stored hs id
  refine ⟨fun hid => hcheck ((hstored _).trans (createCheck_idInUse hid _)),
    fun hid hmap => hcheck ((hstored _).trans (createCheck_mapFull hid hmap _)),
    fun hid hmap hpool => hcheck ((hstored _).trans (createCheck_poolFull hid hmap hpool)), fun hid hmap hpool => ?_⟩
  have hc : s.loadCheck n f.id = none := (hstored _).trans (createCheck_pass hid hmap hpool)
  obtain ⟨hlink, htable⟩ := acceptLoad_front (s.createSegment f.id .loading x.length x.marks 1 (.slot n)) n f.id
    (.request tag false) k
  refine ⟨s.createSegment f.id .loading x.length x.marks 1 (.slot n), ?_, rfl, State.segment?_createSegment_self hid ..,
    insertSegment_length .., fun id hne => State.segment?_createSegment_other s hne ..⟩
  refine exec_awaited_of_takes rfl rfl ht (fun l t => ownLoad_ok ?_) hlink htable
  rw [offerLoad_ok (s := s.withFront l t) (jobsFull_of_lt hroom) hslot (slotBusy_false hb) (by rw [← hc]; rfl),
    ← State.withFront_acceptLoad]
  rfl

/-! ### ERASE, SET_LOCK, SAVE_PLAN and CLEAR_PLAN -/

section Others
variable {s : State} {n : Fin 32} {tag : Byte} {st : Status}

theorem ownErase_refused {slot : Byte} (h : s.jobsFull = false) (hn : slot.toNat = n.val) (hw : s.writable n = some st) :
    ownErase tag slot s = .refused s st := by
  simp [ownErase, h, fin32_eq_some.mpr hn, hw]

theorem ownErase_ok {slot : Byte} (h : s.jobsFull = false) (hn : slot.toNat = n.val) (hw : s.writable n = none) :
    ownErase tag slot s = .deferred (s.accept (.erase n) (.request tag false) 0) := by
  simp [ownErase, h, fin32_eq_some.mpr hn, hw]

theorem levelOf_eq_some {b : Byte} {x : Lock} : levelOf b = some x ↔ b.toNat = x.num := by
  unfold levelOf
  generalize b.toNat = k
  split <;> cases x <;> simp [Lock.num] <;> omega

theorem levelOf_eq_none {b : Byte} (h : 1 < b.toNat) : levelOf b = none :=
  Option.eq_none_iff_forall_ne_some.mpr fun x hx => by
    have := levelOf_eq_some.mp hx
    cases x <;> simp only [Lock.num] at this <;> omega

theorem ownSetLock_range {f : LockFields} (h : s.jobsFull = false) (hbad : 32 ≤ f.slot.toNat ∨ 1 < f.level.toNat) :
    ownSetLock tag f s = .refused s .range := by
  simp only [ownSetLock, h]
  rcases hbad with hs | hlevel
  · simp [fin32_eq_none.mpr hs]
  · simp [levelOf_eq_none hlevel]

theorem ownSetLock_eq {f : LockFields} {x : Lock} (h : s.jobsFull = false) (hn : f.slot.toNat = n.val)
    (hx : f.level.toNat = x.num) : ownSetLock tag f s =
      if s.slotBusy n then .refused s .slotBusy
      else if x = .unlocked ∧ (s.slot n).effective = .frozen then .refused s .slotFrozen
      else .deferred (s.accept (.setLock n x) (.request tag false) 0) := by
  simp [ownSetLock, h, fin32_eq_some.mpr hn, levelOf_eq_some.mpr hx]

theorem frozen_iff {x : Slot} : x.effective = .frozen ↔ x.freeze = true := by
  unfold Slot.effective
  split
  · next h => simp [h]
  · next h => cases x.lock <;> simp [h]

end Others

/-- ERASE (R92, R105). -/
theorem eraseRequest {tag : Byte} {s : State} (ht : s.takes tag = true) (slot : Byte) :
    let run := exec (.erase tag (.fields slot)) s
    let refused := fun st => Host.Outcome.next (s.answered tag 0x62 st [])
    (4 ≤ s.jobs.length → run = refused .jobsFull) ∧
    (s.jobs.length < 4 → 32 ≤ slot.toNat → run = refused .range) ∧
    ∀ n : Fin 32, s.jobs.length < 4 → slot.toNat = n.val →
      (∀ st, s.writable n = some st → run = refused st) ∧
      (s.writable n = none → run = .next (State.awaited (s.accept (.erase n) (.request tag false) 0) tag 0x62)) := by
  intro run refused
  refine ⟨fun hfull => exec_refused_of_takes rfl rfl ht fun l t => ?_, fun hroom hs => exec_refused_of_takes rfl rfl ht fun l t => ?_,
    fun n hroom hn => ⟨fun st hw => exec_refused_of_takes rfl rfl ht fun l t => ?_, fun hw => ?_⟩⟩
  · exact if_pos (jobsFull_of_le (s := s.withFront l t) hfull)
  · simp only [ownErase, jobsFull_of_lt (s := s.withFront l t) hroom, fin32_eq_none.mpr hs]
    rfl
  · exact ownErase_refused (s := s.withFront l t) (jobsFull_of_lt hroom) hn hw
  · obtain ⟨hlink, htable⟩ := accept_front s (.erase n) (.request tag false) 0
    refine exec_awaited_of_takes rfl rfl ht (fun l t => ?_) hlink htable
    rw [ownErase_ok (s := s.withFront l t) (jobsFull_of_lt hroom) hn hw, State.withFront_accept]

/-- SET_LOCK (R92, R105). -/
theorem setLockRequest {tag : Byte} {s : State} (ht : s.takes tag = true) (f : LockFields) :
    let run := exec (.setLock tag (.fields f)) s
    let refused := fun st => Host.Outcome.next (s.answered tag 0x63 st [])
    (4 ≤ s.jobs.length → run = refused .jobsFull) ∧
    (s.jobs.length < 4 → 32 ≤ f.slot.toNat ∨ 1 < f.level.toNat → run = refused .range) ∧
    ∀ (n : Fin 32) (x : Lock), s.jobs.length < 4 → f.slot.toNat = n.val → f.level.toNat = x.num →
      (s.slotBusy n = true → run = refused .slotBusy) ∧
      (s.slotBusy n = false → x = .unlocked ∧ (s.slot n).freeze = true → run = refused .slotFrozen) ∧
      (s.slotBusy n = false → ¬(x = .unlocked ∧ (s.slot n).freeze = true) →
        run = .next (State.awaited (s.accept (.setLock n x) (.request tag false) 0) tag 0x63)) := by
  intro run refused
  refine ⟨fun hfull => exec_refused_of_takes rfl rfl ht fun l t => if_pos (jobsFull_of_le (s := s.withFront l t) hfull),
    fun hroom hbad => exec_refused_of_takes rfl rfl ht fun l t =>
      ownSetLock_range (s := s.withFront l t) (jobsFull_of_lt hroom) hbad, fun n x hroom hn hx => ?_⟩
  have hown (l t) := ownSetLock_eq (s := s.withFront l t) (tag := tag) (jobsFull_of_lt hroom) hn hx
  rw [← frozen_iff]
  refine ⟨fun hb => exec_refused_of_takes rfl rfl ht fun l t => (hown l t).trans (if_pos hb),
    fun hb hf => exec_refused_of_takes rfl rfl ht fun l t =>
      (hown l t).trans ((if_neg (Bool.eq_false_iff.mp hb)).trans (if_pos hf)), fun hb hf => ?_⟩
  obtain ⟨hlink, htable⟩ := accept_front s (.setLock n x) (.request tag false) 0
  refine exec_awaited_of_takes rfl rfl ht (fun l t =>
    (hown l t).trans ((if_neg (Bool.eq_false_iff.mp hb)).trans ((if_neg hf).trans ?_))) hlink htable
  rw [State.withFront_accept]

section Plan
variable {s : State} {tag : Byte} {f : PlanFields}

theorem ownSavePlan_invalid {i : Option Nat} {k : Nat} (h : s.jobsFull = false) (hc : planCheck f = some (i, k)) :
    ownSavePlan tag f s = .reply s .planInvalid (optByte i ++ u8 k) := by
  simp [ownSavePlan, h, hc, planInvalidData]

theorem ownSavePlan_eq (h : s.jobsFull = false) (hc : planCheck f = none) : ownSavePlan tag f s =
    if (planJob s.jobs).isSome then .refused s .slotBusy
    else .deferred (s.accept (.savePlan ⟨f.runOn, f.steps⟩) (.request tag false) 0) := by
  simp [ownSavePlan, h, hc]

theorem ownClearPlan_eq (h : s.jobsFull = false) : ownClearPlan tag () s =
    if (planJob s.jobs).isSome then .refused s .slotBusy else .deferred (s.accept .clearPlan (.request tag false) 0) := by
  simp [ownClearPlan, h]

end Plan

/-- SAVE_PLAN (R97, R105). -/
theorem savePlanRequest {tag : Byte} {s : State} (ht : s.takes tag = true) (f : PlanFields) :
    let run := exec (.savePlan tag (.fields f)) s
    (4 ≤ s.jobs.length → run = .next (s.answered tag 0x65 .jobsFull [])) ∧
    (∀ i k, s.jobs.length < 4 → planCheck f = some (i, k) → run = .next (s.answered tag 0x65 .planInvalid (optByte i ++ u8 k))) ∧
    (s.jobs.length < 4 → planCheck f = none →
      ((∃ j ∈ s.jobs, j.work.isPlan = true) → run = .next (s.answered tag 0x65 .slotBusy [])) ∧
      (¬(∃ j ∈ s.jobs, j.work.isPlan = true) →
        run = .next (State.awaited (s.accept (.savePlan ⟨f.runOn, f.steps⟩) (.request tag false) 0) tag 0x65))) := by
  intro run
  refine ⟨fun hfull => exec_refused_of_takes rfl rfl ht fun l t => if_pos (jobsFull_of_le (s := s.withFront l t) hfull),
    fun i k hroom hc => exec_answered_of_takes rfl rfl ht (fun l t =>
      ownSavePlan_invalid (s := s.withFront l t) (jobsFull_of_lt hroom) hc) rfl rfl, fun hroom hc => ?_⟩
  have hown (l t) := ownSavePlan_eq (s := s.withFront l t) (tag := tag) (jobsFull_of_lt hroom) hc
  refine ⟨fun hb => exec_refused_of_takes rfl rfl ht fun l t => (hown l t).trans (if_pos (planJob_true hb)), fun hb => ?_⟩
  obtain ⟨hlink, htable⟩ := accept_front s (.savePlan ⟨f.runOn, f.steps⟩) (.request tag false) 0
  refine exec_awaited_of_takes rfl rfl ht (fun l t =>
    (hown l t).trans ((if_neg (Bool.eq_false_iff.mp (planJob_false hb))).trans ?_)) hlink htable
  rw [State.withFront_accept]

/-- CLEAR_PLAN (R105). -/
theorem clearPlanRequest {tag : Byte} {s : State} (ht : s.takes tag = true) :
    let run := exec (.clearPlan tag (.fields ())) s
    (4 ≤ s.jobs.length → run = .next (s.answered tag 0x66 .jobsFull [])) ∧
    (s.jobs.length < 4 → (∃ j ∈ s.jobs, j.work.isPlan = true) → run = .next (s.answered tag 0x66 .slotBusy [])) ∧
    (s.jobs.length < 4 → ¬(∃ j ∈ s.jobs, j.work.isPlan = true) →
      run = .next (State.awaited (s.accept .clearPlan (.request tag false) 0) tag 0x66)) := by
  intro run
  refine ⟨fun hfull => exec_refused_of_takes (f := ()) rfl rfl ht fun l t =>
      if_pos (jobsFull_of_le (s := s.withFront l t) hfull),
    fun hroom hb => exec_refused_of_takes (f := ()) rfl rfl ht fun l t =>
      (ownClearPlan_eq (s := s.withFront l t) (jobsFull_of_lt hroom)).trans (if_pos (planJob_true hb)), fun hroom hb => ?_⟩
  obtain ⟨hlink, htable⟩ := accept_front s .clearPlan (.request tag false) 0
  refine exec_awaited_of_takes (f := ()) rfl rfl ht (fun l t => (ownClearPlan_eq (s := s.withFront l t) (jobsFull_of_lt hroom)).trans
    ((if_neg (Bool.eq_false_iff.mp (planJob_false hb))).trans ?_)) hlink htable
  rw [State.withFront_accept]

/-- Settles O42: the four requests, each by its own lemma. -/
theorem otherStoreRequests : Obligations.OtherStoreRequests := by
  intro tag s ht busy planBusy cleared
  have hidle {n : Fin 32} (hb : ¬busy n) : ∀ j ∈ s.jobs, j.work.slot? ≠ some n := fun j hj hn => hb ⟨j, hj, hn⟩
  obtain ⟨hcfull, hcbusy, hcok⟩ := clearPlanRequest ht
  refine ⟨fun slot => ?_, fun f => ?_, fun f => savePlanRequest ht f, hcfull, hcbusy, hcok⟩
  · obtain ⟨hfull, hrange, hslot⟩ := eraseRequest ht slot
    refine ⟨hfull, hrange, fun n hroom hn => ?_⟩
    obtain ⟨refuse, ok⟩ := hslot n hroom hn
    exact ⟨fun hb => refuse _ (writable_busy hb), fun hb hf => refuse _ (writable_frozen (hidle hb) hf),
      fun hb hf hl => refuse _ (writable_locked (hidle hb) hf hl), fun hb hf hl => ok (writable_open (hidle hb) hf hl)⟩
  · obtain ⟨hfull, hrange, hslot⟩ := setLockRequest ht f
    refine ⟨hfull, hrange, fun n x hroom hn hx => ?_⟩
    obtain ⟨hbusy, hfrozen, ok⟩ := hslot n x hroom hn hx
    refine ⟨fun hb => hbusy (slotBusy_true hb), fun hb hu hf => hfrozen (slotBusy_false (hidle hb)) ⟨hu, hf⟩,
      fun hb hopen => ok (slotBusy_false (hidle hb)) ?_⟩
    rintro ⟨rfl, hf⟩
    rcases hopen with h | h
    · cases h
    · rw [hf] at h
      cases h

end Sys2Proof.Machine

/-! ## The Store Controller: acceptance, selection, the completions and CANCEL -/

namespace Sys2Proof.Machine

-- The proofs are checked one after another, so that their memory is not asked for at once.
set_option Elab.async false

/-! ### Which job is picked (R110) -/

theorem Job.isActive_iff {j : Job} : j.isActive = true ↔ j.state = .active := decide_eq_true_iff

theorem Job.isSuspended_iff {j : Job} : j.isSuspended = true ↔ j.state = .suspended := decide_eq_true_iff

theorem Job.isQueued_iff {j : Job} : j.isQueued = true ↔ j.state = .queued := decide_eq_true_iff

theorem Job.isActive_false {j : Job} (h : j.state ≠ .active) : j.isActive = false := decide_eq_false h

theorem Job.isQueuedLoad_iff {j : Job} : j.isQueuedLoad = true ↔ j.state = .queued ∧ ∃ n id, j.work = .load n id := by
  obtain ⟨w, o, st, r, m⟩ := j
  cases w <;> cases st <;> simp [Job.isQueuedLoad]

/-- The job is not a QUEUED LOAD. -/
theorem Job.isQueuedLoad_false {j : Job} (h : j.state = .queued → ∀ n id, j.work ≠ .load n id) : j.isQueuedLoad = false :=
  Bool.eq_false_iff.mpr fun hj => by
    obtain ⟨hq, n, id, hw⟩ := Job.isQueuedLoad_iff.mp hj
    exact h hq n id hw

section Picks
variable {s : State} {xs ys : List Job} {j : Job}

theorem picks_load (hs : ∃ e ∈ s.jobs, e.state = .suspended) (hl : ∃ x ∈ s.jobs, x.isQueuedLoad = true) :
    picks s.jobs = Job.isQueuedLoad := by
  have hs' : s.jobs.any Job.isSuspended = true := by simpa [Job.isSuspended_iff] using hs
  have hl' : s.jobs.any Job.isQueuedLoad = true := by simpa using hl
  funext x
  simp [picks, hs', hl']

theorem picks_suspended (hs : ∃ e ∈ s.jobs, e.state = .suspended) (hl : ∀ x ∈ s.jobs, x.isQueuedLoad = false) :
    picks s.jobs = Job.isSuspended := by
  have hs' : s.jobs.any Job.isSuspended = true := by simpa [Job.isSuspended_iff] using hs
  have hl' : s.jobs.any Job.isQueuedLoad = false := by simpa using hl
  funext x
  simp [picks, hs', hl']

theorem picks_queued (hs : ∀ e ∈ s.jobs, e.state ≠ .suspended) : picks s.jobs = Job.isQueued := by
  have hs' : s.jobs.any Job.isSuspended = false := by simpa [Job.isSuspended] using hs
  funext x
  simp [picks, hs']

/-- Behind an ACTIVE job nothing is selected. -/
theorem select_of_active (h : ∃ j ∈ s.jobs, j.state = .active) : s.select = s := by
  have h' : s.jobs.any Job.isActive = true := by simpa [Job.isActive_iff] using h
  simp [State.select, h']

/-- An idle controller selects the first job that is picked. -/
theorem select_of_picks (ha : ∀ j ∈ s.jobs, j.state ≠ .active) (hj : s.jobs = xs ++ j :: ys) (hp : picks s.jobs j = true)
    (hx : ∀ x ∈ xs, picks s.jobs x = false) : s.select = { s.announceFor j with jobs := xs ++ j.activated :: ys } := by
  have hidle : s.jobs.any Job.isActive = false := by simpa [Job.isActive] using ha
  have hfind : s.jobs.find? (picks s.jobs) = some j := by
    conv_lhs => rw [hj]
    exact find?_append_first (hj ▸ hx) (hj ▸ hp)
  have hmod : modifyFirst (picks s.jobs) Job.activated s.jobs = xs ++ j.activated :: ys := by
    conv_lhs => rw [hj]
    exact modifyFirst_append _ (hj ▸ hx) (hj ▸ hp)
  simp [State.select, hidle, hfind, hmod]

theorem announceFor_load {n : Fin 32} {id : Byte} (hw : j.work = .load n id) : s.announceFor j = s := by
  unfold State.announceFor
  split
  · rw [hw]; rfl
  · rfl

theorem announceFor_queued (h : j.state = .queued) : s.announceFor j = s.announce j.work := if_pos (Job.isQueued_iff.mpr h)

theorem announceFor_suspended (h : j.state = .suspended) : s.announceFor j = s := by
  simp [State.announceFor, Job.isQueued, h]

theorem select_load {n : Fin 32} {id : Byte} (ha : ∀ j ∈ s.jobs, j.state ≠ .active) (hs : ∃ e ∈ s.jobs, e.state = .suspended)
    (hj : s.jobs = xs ++ j :: ys) (hq : j.state = .queued) (hw : j.work = .load n id)
    (hx : ∀ x ∈ xs, x.isQueuedLoad = false) : s.select = { s with jobs := xs ++ j.activated :: ys } := by
  have hload : j.isQueuedLoad = true := Job.isQueuedLoad_iff.mpr ⟨hq, n, id, hw⟩
  have hp := picks_load hs ⟨j, by simp [hj], hload⟩
  rw [select_of_picks ha hj (by rw [hp]; exact hload) (by rw [hp]; exact hx), announceFor_load hw]

theorem select_suspended (ha : ∀ j ∈ s.jobs, j.state ≠ .active) (hj : s.jobs = xs ++ j :: ys) (hs : j.state = .suspended)
    (hx : ∀ x ∈ xs, x.state ≠ .suspended) (hl : ∀ x ∈ s.jobs, x.isQueuedLoad = false) :
    s.select = { s with jobs := xs ++ j.activated :: ys } := by
  have hp := picks_suspended ⟨j, by simp [hj], hs⟩ hl
  rw [select_of_picks ha hj (by rw [hp]; exact Job.isSuspended_iff.mpr hs)
    (by rw [hp]; exact fun x hx' => decide_eq_false (hx x hx')), announceFor_suspended hs]

theorem select_queued (hj : s.jobs = j :: ys) (hq : ∀ x ∈ s.jobs, x.state = .queued) :
    s.select = { s.announce j.work with jobs := j.activated :: ys } := by
  have hjq : j.state = .queued := hq j (by simp [hj])
  have hp : picks s.jobs = Job.isQueued := picks_queued fun e he => by simp [hq e he]
  rw [select_of_picks (xs := []) (fun e he => by simp [hq e he]) hj (by rw [hp]; exact Job.isQueued_iff.mpr hjq) (by simp),
    announceFor_queued hjq]
  rfl

end Picks

/-! ### Acceptance (R108, R112) -/

section Acceptance
variable {s : State} {n : Fin 32} {id : Byte}

theorem accept_idle (h : s.jobs = []) (w : Work) (o : JobOrigin) (k : Nat) :
    s.accept w o k = { s.announce w with jobs := [(newJob w o k).activated] } := by
  have hj : ({ s with jobs := s.jobs ++ [newJob w o k] } : State).jobs = [newJob w o k] := by simp [h]
  have hsel := select_queued hj (by rw [hj]; simp [newJob])
  refine hsel.trans ?_
  cases w <;> rfl

theorem accept_behind (h : ∃ j ∈ s.jobs, j.state = .active) (w : Work) (o : JobOrigin) (k : Nat) :
    s.accept w o k = { s with jobs := s.jobs ++ [newJob w o k] } := by
  obtain ⟨j, hj, ha⟩ := h
  exact select_of_active ⟨j, List.mem_append_left _ hj, ha⟩

theorem suspends_false (h : (∀ j ∈ s.jobs, j.state = .active → ∀ m, j.work = .erase m → m = n ∨ 8 ≤ j.suspensions) ∨
    ∃ j ∈ s.jobs, j.state = .suspended) : suspends n s.jobs = false := by
  rcases h with h | h
  · have hnone : s.jobs.any (Job.suspendable n) = false := List.any_eq_false.mpr fun j hj hs => by
      obtain ⟨m, hw, ha, hm, hlt⟩ := Job.suspendable_iff.mp hs
      rcases h j hj (Job.isActive_iff.mp ha) m hw with rfl | h8
      · exact hm rfl
      · exact absurd hlt (Nat.not_lt.mpr h8)
    simp [suspends, hnone]
  · have hs : s.jobs.any Job.isSuspended = true := by simpa [Job.isSuspended_iff] using h
    simp [suspends, hs]

theorem acceptLoad_unsuspended (h : suspends n s.jobs = false) (o : JobOrigin) (k : Nat) :
    s.acceptLoad n id o k = s.accept (.load n id) o k := by
  simp [State.acceptLoad, h]

/-- A LOAD that suspends the ACTIVE erase of another slot (R112). -/
theorem acceptLoad_suspending {xs ys : List Job} {e : Job} {m : Fin 32} (hj : s.jobs = xs ++ e :: ys) (he : e.state = .active)
    (hx : ∀ x ∈ xs, x.state ≠ .active) (hw : e.work = .erase m) (hm : n ≠ m) (h8 : e.suspensions < 8)
    (hs : ∀ j ∈ s.jobs, j.state ≠ .suspended) (o : JobOrigin) (k : Nat) :
    s.acceptLoad n id o k = { s with jobs := xs ++ e.suspend :: ys ++ [(newJob (.load n id) o k).activated] } := by
  have hsus : e.suspendable n = true := Job.suspendable_iff.mpr ⟨m, hw, Job.isActive_iff.mpr he, hm.symm, h8⟩
  have hbefore : ∀ x ∈ xs, x.suspendable n = false := fun x hx' => Bool.eq_false_iff.mpr fun h => by
    obtain ⟨-, -, ha, -, -⟩ := Job.suspendable_iff.mp h
    exact hx x hx' (Job.isActive_iff.mp ha)
  have hnone : s.jobs.any Job.isSuspended = false := by simpa [Job.isSuspended] using hs
  have hany : s.jobs.any (Job.suspendable n) = true := List.any_eq_true.mpr ⟨e, by simp [hj], hsus⟩
  have hmod : modifyFirst (Job.suspendable n) Job.suspend s.jobs = xs ++ e.suspend :: ys := by
    rw [hj]
    exact modifyFirst_append _ hbefore hsus
  simp [State.acceptLoad, suspends, hany, hnone, hmod]

end Acceptance

/-- Settles O44: the announcement, the acceptance, the selection. -/
theorem acceptanceAndSelection : Obligations.AcceptanceAndSelection := by
  intro s
  refine ⟨fun _ _ _ => rfl, fun _ => rfl, fun _ => rfl, rfl, ?_, fun w o k => ?_, fun n id o k => ?_, select_of_active, fun h => ?_,
    fun ha => ⟨fun xs j ys n id hs hj hq hw hx => select_load ha hs hj hq hw fun x hm => Job.isQueuedLoad_false (hx x hm),
      fun xs j ys hj hs hx hl => select_suspended ha hj hs hx fun x hm => Job.isQueuedLoad_false (hl x hm),
      fun j ys hj hq => select_queued hj hq⟩⟩
  · rintro w (⟨n, id, rfl⟩ | ⟨n, l, rfl⟩) <;> rfl
  · exact ⟨fun h => accept_idle h w o k, fun h => accept_behind h w o k⟩
  · refine ⟨fun h => ?_, fun xs e ys m hj he hx hw hm h8 hs => acceptLoad_suspending hj he hx hw hm h8 hs o k, fun ha h => ?_⟩
    · exact (acceptLoad_unsuspended (suspends_false (.inl (by simp [h]))) o k).trans (accept_idle h _ _ _)
    · exact (acceptLoad_unsuspended (suspends_false h) o k).trans (accept_behind ha _ _ _)
  · simp [State.select, h]

end Sys2Proof.Machine

/-! ## The completions of jobs, and CANCEL -/

namespace Sys2Proof.Machine

-- The proofs are checked one after another, so that their memory is not asked for at once.
set_option Elab.async false

/-! ### Operations of the players, which see the channels, the pool and the notices alone -/

/-- What the players see of `s`, on the rest of `t`. -/
def State.onto (s t : State) : State :=
  { t with channels := s.channels, deliveries := s.deliveries, pool := s.pool, notices := s.notices }

/-- An operation that reads and changes the players' part of the state alone. -/
def Local (f : State → State) : Prop := ∀ s t, f (s.onto t) = (f s).onto t

namespace Local

theorem freeSegment (g : Segment) (b : Bool) : Local (fun s => s.freeSegment g b) := fun _ _ => by cases b <;> rfl

theorem releaseRef (id : Byte) : Local (fun s => s.releaseRef id) := by
  intro s t
  have hg : (s.onto t).segment? id = s.segment? id := rfl
  unfold State.releaseRef
  dsimp only
  rw [hg]
  split
  · rfl
  · split
    · exact freeSegment _ true s t
    · rfl

theorem enterStarted (c : Fin 4) (e : Entry) (rest : List Entry) (st : SegState) : Local (fun s => s.enterStarted c e rest st) :=
  fun _ _ => by cases st <;> rfl

theorem dropHead (c : Fin 4) (e : Entry) (rest : List Entry) : Local (fun s => s.dropHead c e rest) := fun s t =>
  congrArg (fun u : State => u.notify .entrySkipped (.channel c) [e.segment])
    (releaseRef e.segment (s.modChannel c (fun ch => { ch with queue := rest })) t)

theorem evalQueue (c : Fin 4) (q : List Entry) : Local (State.evalQueue c q) := by
  induction q with
  | nil => exact fun _ _ => rfl
  | cons e rest ih =>
    intro s t
    unfold State.evalQueue
    cases e.start with
    | onTrigger k => rfl
    | immediate =>
      dsimp only
      have hmod : (s.onto t).modChannel c (fun ch => { ch with activeGen := e.generator.getD ch.defaultGen }) =
        (s.modChannel c (fun ch => { ch with activeGen := e.generator.getD ch.defaultGen })).onto t := rfl
      generalize s.modChannel c (fun ch => { ch with activeGen := e.generator.getD ch.defaultGen }) = u at hmod ⊢
      have hplay : (u.onto t).playable e.segment = u.playable e.segment := rfl
      rw [hmod, hplay]
      cases u.playable e.segment with
      | some st => exact enterStarted c e rest st u t
      | none => exact (congrArg (State.evalQueue c rest) (dropHead c e rest u t)).trans (ih _ t)

theorem skipHead (c : Fin 4) (e : Entry) (rest : List Entry) : Local (fun s => s.skipHead c e rest) := fun s t =>
  (congrArg (State.evalQueue c rest) (dropHead c e rest s t)).trans (evalQueue c rest _ t)

theorem forEach {α : Type} {f : α → State → State} (h : ∀ x, Local (f x)) (xs : List α) : Local (Machine.forEach f xs) := by
  induction xs with
  | nil => exact fun _ _ => rfl
  | cons x xs ih => exact fun s t => (congrArg (Machine.forEach f xs) (h x s t)).trans (ih _ t)

theorem failedReport (id : Byte) (c : Fin 4) : Local (State.failedReport id c) := by
  intro s t
  have hc : (s.onto t).channel c = s.channel c := rfl
  unfold State.failedReport
  rw [hc]
  split
  · next e rest _ _ =>
    split
    · exact skipHead c e rest s t
    · rfl
  · rfl

theorem reportReady (id : Byte) : Local (fun s => s.reportReady id) := fun s t => by
  simp only [reportReady_eq]
  rfl

theorem loadSucceeds (id : Byte) : Local (fun s => s.loadSucceeds id) := fun s t =>
  (congrArg (fun u : State => u.releaseRef id) (reportReady id (s.modSegment id (fun x => { x with state := .ready })) t)).trans
    (releaseRef id _ t)

theorem failLoading (id : Byte) : Local (fun s => s.failLoading id) := by
  intro s t
  have hg : (s.onto t).segment? id = s.segment? id := rfl
  unfold State.failLoading
  dsimp only
  rw [hg]
  split
  · rfl
  · split
    · exact freeSegment _ true s t
    · exact forEach (failedReport id) allChannels
        (s.modSegment id fun x => { x with state := .failed, retiring := true, refs := x.refs - 1 }) t

end Local

namespace Moves

theorem modSegment (s : State) (id : Byte) (f : Segment → Segment) : Moves s (s.modSegment id f) := ⟨rfl⟩

theorem failedReport (id : Byte) (c : Fin 4) (s : State) : Moves s (State.failedReport id c s) := by
  unfold State.failedReport
  split
  · split
    · exact skipHead s c _ _
    · exact refl s
  · exact refl s

theorem reportReady (s : State) (id : Byte) : Moves s (s.reportReady id) := by
  rw [reportReady_eq]
  exact ⟨rfl⟩

theorem loadSucceeds (s : State) (id : Byte) : Moves s (s.loadSucceeds id) :=
  ((modSegment s id _).trans (reportReady _ id)).trans (releaseRef _ id)

theorem failLoading (s : State) (id : Byte) : Moves s (s.failLoading id) := by
  unfold State.failLoading
  split
  · exact refl s
  · split
    · exact freeSegment s _ true
    · exact (modSegment s id _).trans (forEach (failedReport id) allChannels _)

end Moves

/-- `s` with another job list. -/
def State.withJobs (s : State) (js : List Job) : State := { s with jobs := js }

/-- An operation of the players does not see the job list. -/
theorem Local.withJobs {f : State → State} (h : Local f) (hm : ∀ s, Moves s (f s)) (s : State) (js : List Job) :
    f (s.withJobs js) = (f s).withJobs js := by
  have hs : f (s.withJobs js) = (f s).onto (s.withJobs js) := h s (s.withJobs js)
  rw [hs, (hm s).frame]
  rfl

/-! ### The ACTIVE job and its reply (R104, R114, R169, R171) -/

section Active
variable {s : State} {xs ys : List Job} {j : Job}

theorem activeJob_first (hj : s.jobs = xs ++ j :: ys) (ha : j.state = .active) (hx : ∀ x ∈ xs, x.state ≠ .active) :
    s.activeJob = some j := by
  rw [State.activeJob, hj]
  exact find?_append_first (fun x hx' => Job.isActive_false (hx x hx')) (Job.isActive_iff.mpr ha)

theorem jobLeaves_first {t : State} (ht : t.jobs = s.jobs) (hj : s.jobs = xs ++ j :: ys) (ha : j.state = .active)
    (hx : ∀ x ∈ xs, x.state ≠ .active) : t.jobLeaves = t.withJobs (xs ++ ys) := by
  have he : t.jobs.eraseP Job.isActive = xs ++ ys := by
    rw [ht, hj]
    exact eraseP_append_first (fun x hx' => Job.isActive_false (hx x hx')) (Job.isActive_iff.mpr ha)
  rw [State.jobLeaves, he]
  rfl

/-- Steps 3 to 5 of a completion, for the ACTIVE job's place in the list. -/
theorem finishJob_first {t : State} (ht : t.jobs = s.jobs) (hj : s.jobs = xs ++ j :: ys) (ha : j.state = .active)
    (hx : ∀ x ∈ xs, x.state ≠ .active) (st : Status) (data : List Byte) :
    t.finishJob j st data = ((t.withJobs (xs ++ ys)).handReply j.origin j.work.code st data).select := by
  rw [State.finishJob, jobLeaves_first ht hj ha hx]

end Active

theorem Pending.holds_false {tag : Byte} {e : Pending} (h : e.tag = tag → e.orphaned = true) : e.holds tag = false := by
  unfold Pending.holds
  by_cases ht : e.tag = tag
  · simp [ht, h ht]
  · simp [ht]

theorem handReply_request (s : State) {tag : Byte} (code : Byte) (st : Status) (data : List Byte) {xs ys : List Pending}
    {e : Pending} (he : s.table.entries = xs ++ e :: ys) (ht : e.tag = tag) (ho : e.orphaned = false)
    (hx : ∀ x ∈ xs, x.tag = tag → x.orphaned = true) :
    s.handReply (.request tag false) code st data = { s with table :=
      { entries := xs ++ { e with state := .queued } :: ys, line := s.table.line ++ [.reply tag code st data] } } := by
  have hmod : modifyFirst (Pending.holds tag) (fun e => { e with state := .queued }) s.table.entries =
      xs ++ { e with state := .queued } :: ys := by
    rw [he]
    exact modifyFirst_append _ (fun x hm => Pending.holds_false (hx x hm)) (by simp [Pending.holds, ht, ho])
  rw [← hmod]
  rfl

theorem handReply_orphan (s : State) {tag code : Byte} (st : Status) (data : List Byte) {xs ys : List Pending} {e : Pending}
    (he : s.table.entries = xs ++ e :: ys) (ht : e.tag = tag) (ho : e.orphaned = true) (hc : e.code = code)
    (hx : ∀ x ∈ xs, ¬(x.tag = tag ∧ x.code = code ∧ x.orphaned = true)) :
    s.handReply (.request tag true) code st data = { s with table := { s.table with entries := xs ++ ys } } := by
  have herase : s.table.entries.eraseP (Pending.isOrphan tag code) = xs ++ ys := by
    rw [he]
    refine eraseP_append_first (fun x hm => Bool.eq_false_iff.mpr fun h => hx x hm ?_) (by simp [Pending.isOrphan, ht, ho, hc])
    simpa [Pending.isOrphan, and_assoc] using h
  rw [← herase]
  rfl

/-- Settles O45: the reply, and each of the five completions at the ACTIVE job's place in the list. -/
theorem jobCompletions : Obligations.JobCompletions := by
  refine ⟨fun s tag code st data xs ys e he ht => ⟨fun ho hx => handReply_request s code st data he ht ho hx,
    fun ho hc hx => handReply_orphan s st data he ht ho hc hx⟩, fun s xs ys j ha hj hact hx => ?_⟩
  have hjob := activeJob_first hj hact hx
  have finish {t : State} (ht : t.jobs = s.jobs) (st : Status) (data : List Byte) := finishJob_first ht hj hact hx st data
  have event (f : State → State) {t : State} (h : f s = t) : s.event f = t.arbitrate := by rw [event_alive ha, h]
  intro u done
  refine ⟨fun n id label g hw hg => ?_, fun n hw => ?_, fun n l hw => ?_, fun r hw => ?_, fun hw => ?_⟩
  · intro x samples check
    refine congrArg Host.Outcome.next (event State.completeSave ?_)
    rw [State.completeSave, hjob]
    simp only [hw, hg]
    refine (finish (by exact (releaseRef_frame _ id).2.2.2.2.2.1) _ _).trans ?_
    rw [← (Local.releaseRef id).withJobs fun s => Moves.releaseRef s id, hw]
    rfl
  · intro x
    refine congrArg Host.Outcome.next (event State.completeErase ?_)
    rw [State.completeErase, hjob]
    simp only [hw]
    refine (finish (by rfl) _ _).trans ?_
    rw [hw]
    rfl
  · intro x effective
    refine congrArg Host.Outcome.next (event State.completeSetLock ?_)
    rw [State.completeSetLock, hjob]
    simp only [hw]
    refine (finish (by rfl) _ _).trans ?_
    rw [hw]
    have hdata : lockData n { x with lock := l } =
        u8 n.val ++ u8 l.num ++ [if x.freeze = true then 0 else 1] ++ u8 effective := by
      simp only [lockData, setClear, Slot.effective, effective]
      cases x.freeze <;> cases l <;> rfl
    rw [← hdata]
    rfl
  · refine congrArg Host.Outcome.next (event State.completeSavePlan ?_)
    rw [State.completeSavePlan, hjob]
    simp only [hw]
    refine (finish (by rfl) _ _).trans ?_
    rw [hw]
    rfl
  · refine congrArg Host.Outcome.next (event State.completeClearPlan ?_)
    rw [State.completeClearPlan, hjob]
    simp only [hw]
    refine (finish (by rfl) _ _).trans ?_
    rw [hw]
    rfl

/-! ### The load transfer and the LOAD's completion (R111, R116) -/

section Load
variable {s : State} {xs ys : List Job} {j : Job} {n : Fin 32} {id : Byte} {g : Segment}

theorem finishLoad_first {t : State} (ht : t.jobs = s.jobs) (hj : s.jobs = xs ++ j :: ys) (ha : j.state = .active)
    (hx : ∀ x ∈ xs, x.state ≠ .active) (st : Status) (data : List Byte) :
    t.finishLoad j st data = ((t.withJobs (xs ++ ys)).handLoad j.origin st data).select := by
  rw [State.finishLoad, jobLeaves_first ht hj ha hx]

theorem completeLoad_eq (hjob : s.activeJob = some j) (hw : j.work = .load n id) (hg : s.segment? id = some g)
    (cells : List (Nat × Sample)) : s.completeLoad cells = (s.transferRest n g cells).judgeLoad j n g := by
  simp only [State.completeLoad, hjob, hw, hg]

/-- The transfers that remain raise the fill mark to the length. -/
theorem transferRest_segment? (hg : s.segment? id = some g) (n : Fin 32) (cells : List (Nat × Sample)) :
    (s.transferRest n g cells).segment? id = some { g with fill := g.length } := by
  have hid : g.id = id := State.id_of_segment? hg
  have h := State.segment?_modSegment (s := s) (f := fun x => { x with fill := g.length }) (fun _ => rfl) g.id id
  rw [if_pos hid.symm, hid, hg] at h
  rw [← hid] at h ⊢
  exact h

theorem transferBlock_eq (hjob : s.activeJob = some j) (hw : j.work = .load n id) (hg : s.segment? id = some g)
    (cells : List (Nat × Sample)) : s.transferBlock cells =
      if g.fill / Config.blockSamples + 1 < g.blocks.length then
        ((s.changeSlot n cells).fillSamples g g.transferred
          ((((s.changeSlot n cells).slot n).data.drop g.transferred).take Config.blockSamples)).modSegment id
            (fun x => { x with fill := g.transferred + Config.blockSamples })
      else s := by
  simp only [State.transferBlock, hjob, hw, hg]

theorem judgeLoad_match (h : s.loadedCheck g = (s.slot n).check) : s.judgeLoad j n g =
    (s.loadSucceeds g.id).finishLoad j .ok (u8 n.val ++ [g.id] ++ u16 g.length ++ u32 (s.slot n).check.toNat) := if_pos h

theorem judgeLoad_mismatch (h : s.loadedCheck g ≠ (s.slot n).check) : s.judgeLoad j n g =
    (s.failLoading g.id).finishLoad j .checkFailed
      (u8 n.val ++ [g.id] ++ u32 (s.slot n).check.toNat ++ u32 (s.loadedCheck g).toNat ++ g.loadDisposition) := if_neg h

end Load

/-- Settles O46: the transfer, then the judgement of a completed LOAD. -/
theorem loadTransfersAndCompletes : Obligations.LoadTransfersAndCompletes := by
  intro s xs ys j n id g cells ha hj hact hx hw hg
  have hjob := activeJob_first hj hact hx
  obtain rfl : g.id = id := State.id_of_segment? hg
  intro x k moved v computed done
  have hslot : (s.changeSlot n cells).slot n = x := State.slot_setSlot_self ..
  have htransfer : exec (.blockTransfer cells) s = .next (s.transferBlock cells).arbitrate :=
    congrArg Host.Outcome.next (event_alive ha _)
  have hload : exec (.loadCompletion cells) s = .next ((s.transferRest n g cells).judgeLoad j n g).arbitrate := by
    rw [← completeLoad_eq hjob hw hg]
    exact congrArg Host.Outcome.next (event_alive ha _)
  have hrest : (s.transferRest n g cells).withJobs (xs ++ ys) = v := by
    rw [State.transferRest, hslot]
    rfl
  have hcheck : ((s.transferRest n g cells).slot n).check = x.check := congrArg Slot.check hslot
  have hcomputed : (s.transferRest n g cells).loadedCheck g = computed := by
    have hmem : ((s.transferRest n g cells).withJobs (xs ++ ys)).pool.mem = v.pool.mem := by rw [hrest]
    exact congrArg (fun m => checkValue g.length ((List.range g.length).map (readSample m g.blocks)) g.marks) hmem
  have finish {t : State} (ht : t.jobs = s.jobs) (st : Status) (data : List Byte) :
      Host.Outcome.next (t.finishLoad j st data).arbitrate = done (t.withJobs (xs ++ ys)) st data := by
    rw [finishLoad_first ht hj hact hx]
    show _ = Host.Outcome.next _
    cases j.origin <;> rfl
  refine ⟨fun hk => ?_, fun hk => ?_, fun hm => ?_, fun hm hr => ?_, fun hm hr => ?_⟩
  · rw [htransfer, transferBlock_eq hjob hw hg, hslot]
    exact congrArg (fun u : State => Host.Outcome.next u.arbitrate) (if_pos hk)
  · rw [htransfer, transferBlock_eq hjob hw hg]
    exact congrArg (fun u : State => Host.Outcome.next u.arbitrate) (if_neg (Nat.not_lt.mpr hk))
  · rw [hload, judgeLoad_match (by rw [hcomputed, hcheck, hm]), finish, ← (Local.loadSucceeds g.id).withJobs fun s => Moves.loadSucceeds s g.id, hrest, hcheck]
    · rfl
    · rw [(Moves.loadSucceeds _ g.id).frame]
      rfl
  all_goals
    have hne : (s.transferRest n g cells).loadedCheck g ≠ ((s.transferRest n g cells).slot n).check := by
      rw [hcomputed, hcheck]
      exact hm
    rw [hload, judgeLoad_mismatch hne, finish (t := (s.transferRest n g cells).failLoading g.id) (failLoading_jobs ..), ← (Local.failLoading g.id).withJobs fun s => Moves.failLoading s g.id, hrest, hcheck, hcomputed]
    have hg' : v.segment? g.id = some { g with fill := g.length } := hrest ▸ transferRest_segment? hg n cells
  · have h0 : g.refs - 1 = 0 := by omega
    simp only [State.failLoading, hg', h0, if_true, Segment.loadDisposition]
    rfl
  · have h0 : ¬g.refs - 1 = 0 := by omega
    simp only [State.failLoading, hg', h0, if_false, Segment.loadDisposition]
    rfl

/-! ### CANCEL (R120, R121) -/

theorem Job.isOf_iff {tag : Byte} {j : Job} : j.isOf tag = true ↔ j.origin = .request tag false := decide_eq_true_iff

theorem Job.unstoppable_iff {j : Job} : j.unstoppable = true ↔ j.state = .active ∧ ∃ n l, j.work = .setLock n l := by
  unfold Job.unstoppable
  cases hw : j.work <;> simp [Job.isActive_iff]

section Cancel
variable {s : State} {tag : Byte} {j : Job}

theorem ownCancel_none (h : ∀ j ∈ s.jobs, j.origin ≠ .request tag false) : ownCancel tag s = .refused s .noSuchJob := by
  have hfind : s.jobs.find? (Job.isOf tag) = none := List.find?_eq_none.mpr fun j hj hof => h j hj (Job.isOf_iff.mp hof)
  simp [ownCancel, hfind]

theorem ownCancel_unstoppable (hf : s.jobs.find? (Job.isOf tag) = some j) (hu : j.unstoppable = true) :
    ownCancel tag s = .refused s .notCancellable := by
  simp [ownCancel, hf, hu]

theorem ownCancel_taken (hf : s.jobs.find? (Job.isOf tag) = some j) (hu : j.unstoppable = false) : ownCancel tag s =
    .reply ((s.takeOut tag j).placeReply tag j.work.code .cancelled (cancelData j (s.takeOut tag j))) .ok
      (cancelData j (s.takeOut tag j)) := by
  simp [ownCancel, hf, hu]

end Cancel

/-- A taken request whose owner places a deferred reply before its own: `T` is the table with that reply placed. -/
theorem exec_answered_behind {α : Type} {i : Instr} {tag code : Byte} {exempt : Bool} {f : α} {owner : α → State → Owned}
    {s u : State} {st : Status} {data : List Byte} {place : Table → Table} {T : Table}
    (hd : dispatch i = onRequest tag code exempt (.fields f) owner) (hl : s.listening = true) (ha : s.admits tag exempt = true)
    (ho : ∀ l t, owner f (s.withFront l t) = .reply (u.withFront l (place t)) st data)
    (hplace : place { s.table with entries := s.table.entries ++ [⟨tag, code, .awaiting, false⟩] } =
      { T with entries := T.entries ++ [⟨tag, code, .awaiting, false⟩] })
    (hnone : T.entries.any (Pending.holds tag) = false) (hul : u.link = s.link) :
    s.receiveFrame i = State.answered { u with table := T } tag code st data := by
  rw [State.receiveFrame, receive_listening hl, hd]
  have hopen : (s.withFront s.link.tookFrame s.table).openEntry tag code =
      s.withFront s.link.tookFrame { s.table with entries := s.table.entries ++ [⟨tag, code, .awaiting, false⟩] } := rfl
  simp only [onRequest, endFrame_countGood, takeRequest, genericCheck_admits ha, hopen, ho, placeOwned, State.placeReply,
    State.answered, hul, hplace, State.withFront_table]
  rw [modifyFirst_append_new _ hnone (by simp [Pending.holds])]
  rfl

/-- Placing a deferred reply leaves an entry made after it where it is. -/
theorem withDeferred_append {t : Table} {named : Byte} (h : ∃ e ∈ t.entries, e.tag = named ∧ e.orphaned = false) (code : Byte)
    (st : Status) (data : List Byte) (e : Pending) :
    Table.withDeferred { t with entries := t.entries ++ [e] } named code st data =
      { t.withDeferred named code st data with entries := (t.withDeferred named code st data).entries ++ [e] } := by
  obtain ⟨x, hx, ht, ho⟩ := h
  obtain ⟨xs, x', ys, hxs, he, hp⟩ : ∃ xs x' ys, (∀ a ∈ xs, a.holds named = false) ∧ t.entries = xs ++ x' :: ys ∧
      x'.holds named = true := by
    have hfind : (t.entries.find? (Pending.holds named)).isSome := List.find?_isSome.mpr ⟨x, hx, by simp [Pending.holds, ht, ho]⟩
    obtain ⟨x', hx'⟩ := Option.isSome_iff_exists.mp hfind
    obtain ⟨as, bs, e, ha, hp⟩ := exists_split_of_find? hx'
    exact ⟨as, x', bs, ha, e, hp⟩
  have hshort := modifyFirst_append (ys := ys) (fun e : Pending => { e with state := .queued }) hxs hp
  have hlong := modifyFirst_append (ys := ys ++ [e]) (fun e : Pending => { e with state := .queued }) hxs hp
  simp only [Table.withDeferred, he, hshort, List.append_assoc, List.cons_append, hlong]

/-- A deferred reply placed adds no entry under a tag. -/
theorem withDeferred_holds (t : Table) (named tag code : Byte) (st : Status) (data : List Byte) :
    (t.withDeferred named code st data).entries.any (Pending.holds tag) = t.entries.any (Pending.holds tag) := by
  have hmap := modifyFirst_map (Pending.holds tag) (p := Pending.holds named) (f := fun e => { e with state := .queued })
    (fun _ => rfl) t.entries
  have hany (es : List Pending) : es.any (Pending.holds tag) = (es.map (Pending.holds tag)).any id := by simp
  rw [hany, hany t.entries, ← hmap]
  rfl

theorem cancelEffect_jobs (s : State) (w : Work) : (s.cancelEffect w).jobs = s.jobs := by
  cases w with
  | save n id label => exact (releaseRef_frame s id).2.2.2.2.2.1
  | load n id => exact failLoading_jobs s id
  | erase | setLock | savePlan | clearPlan => rfl

/-- An operation behind the table leaves the link and the table. -/
theorem BehindTheTable.front {f : State → State} (h : BehindTheTable f) (s : State) :
    (f s).link = s.link ∧ (f s).table = s.table := by
  have hs : f s = (f s).withFront s.link s.table := h s s.link s.table
  constructor
  · rw [hs]; rfl
  · rw [hs]; rfl

section TakeOut
variable {s : State} {tag : Byte} {xs ys : List Job} {j : Job}

theorem find?_isOf (hj : s.jobs = xs ++ j :: ys) (ho : j.origin = .request tag false)
    (hx : ∀ x ∈ xs, x.origin ≠ .request tag false) : s.jobs.find? (Job.isOf tag) = some j := by
  rw [hj]
  exact find?_append_first (fun x hm => decide_eq_false (hx x hm)) (Job.isOf_iff.mpr ho)

theorem takeOut_eq (hj : s.jobs = xs ++ j :: ys) (ho : j.origin = .request tag false)
    (hx : ∀ x ∈ xs, x.origin ≠ .request tag false) : s.takeOut tag j =
      if j.state = .active then ({ s.cancelEffect j.work with jobs := xs ++ ys } : State).select
      else { s.cancelEffect j.work with jobs := xs ++ ys } := by
  have herase : (s.cancelEffect j.work).jobs.eraseP (Job.isOf tag) = xs ++ ys := by
    rw [cancelEffect_jobs, hj]
    exact eraseP_append_first (fun x hm => decide_eq_false (hx x hm)) (Job.isOf_iff.mpr ho)
  simp only [State.takeOut, herase, Job.isActive_iff]

end TakeOut

/-- Settles O47: the two refusals, and the job taken out with its reply placed before the CANCEL's own. -/
theorem cancelRequest : Obligations.CancelRequest := by
  intro tag named s ht run
  refine ⟨fun h => exec_refused_of_takes rfl rfl ht fun l t => ownCancel_none (s := s.withFront l t) h,
    fun xs j ys hj ho hx => ?_⟩
  have hfind := find?_isOf hj ho hx
  refine ⟨fun ha hw => exec_refused_of_takes rfl rfl ht fun l t =>
    ownCancel_unstoppable (s := s.withFront l t) hfind (Job.unstoppable_iff.mpr ⟨ha, hw⟩), fun hu he => ?_⟩
  intro effect out u data
  have htake : s.takeOut named j = u := (takeOut_eq hj ho hx).trans (by
    cases hw : j.work <;> simp only [u, out, effect, hw] <;> rfl)
  have hdata (l : Link) (t : Table) : cancelData j (u.withFront l t) = data := rfl
  obtain ⟨hl, ha⟩ : s.listening = true ∧ s.admits tag false = true := by simpa [State.takes] using ht
  have hfree : s.table.entries.any (Pending.holds tag) = false := by
    simp only [State.admits, Bool.and_eq_true, Bool.not_eq_true'] at ha
    exact ha.1.1
  refine congrArg Host.Outcome.next (exec_answered_behind (u := u) (place := fun t => t.withDeferred named j.work.code .cancelled data)
    rfl hl ha (fun l t => ?_) (withDeferred_append he ..) ((withDeferred_holds ..).trans hfree) ?_)
  · rw [ownCancel_taken (s := s.withFront l t) hfind (Bool.eq_false_iff.mpr fun h => hu (Job.unstoppable_iff.mp h)),
      State.withFront_takeOut, htake, hdata]
    rfl
  · rw [← htake]
    exact (BehindTheTable.front (f := fun s => s.takeOut named j) (fun s l t => State.withFront_takeOut s l t named j) s).1

end Sys2Proof.Machine

/-! ## Firings and the channels (R31, R42–R44, R76, R80) -/

namespace Sys2Proof.Machine

-- The proofs are checked one after another, so that their memory is not asked for at once.
set_option Elab.async false

section Firing
variable {s : State} {c : Fin 4} {e : Entry} {rest : List Entry} {k : Fin 8}

/-! ### The start condition is met (R31–R34, R43) -/

/-- Puts the state and the queue of one channel. -/
def State.putChannel (s : State) (c : Fin 4) (st : ChanState) (q : List Entry) : State :=
  { s with channels := s.channels.set c { s.channel c with state := st, queue := q } }

theorem modChannel_eq_put {f : Channel → Channel} {st : ChanState} {q : List Entry}
    (h : f (s.channel c) = { s.channel c with state := st, queue := q }) : s.modChannel c f = s.putChannel c st q := by
  rw [State.modChannel, h]
  rfl

theorem putChannel_self {q : List Entry} (h : (s.channel c).queue = q) : s.putChannel c (s.channel c).state q = s := by
  subst h
  exact setChannel_self s c

theorem meetStart_played {st : SegState} (hp : s.playable e.segment = some st) :
    s.meetStart c e rest = s.enterStarted c e rest st := by
  simp [State.meetStart, hp]

theorem meetStart_skipped (hp : s.playable e.segment = none) (hw : (s.channel c).state = .waiting) : s.meetStart c e rest =
    (State.notify .entrySkipped (.channel c) [e.segment] ((s.putChannel c .waiting rest).releaseRef e.segment)).evaluateHead c := by
  have hput : s.modChannel c (fun ch => { ch with queue := rest }) = s.putChannel c .waiting rest :=
    modChannel_eq_put (by rw [← hw])
  have hdrop : s.dropHead c e rest =
      State.notify .entrySkipped (.channel c) [e.segment] ((s.putChannel c .waiting rest).releaseRef e.segment) := by
    rw [State.dropHead, hput]
  simp only [State.meetStart, hp, State.skipHead]
  rw [evalQueue_dropHead, hdrop]

/-! ### A firing at one channel (R44) -/

theorem waitsOn_eq_some : (s.channel c).waitsOn = some k ↔
    (s.channel c).state = .waiting ∧ ∃ e rest, (s.channel c).queue = e :: rest ∧ e.start = .onTrigger k := by
  unfold Channel.waitsOn
  split
  · next e rest hs hq =>
    cases he : e.start <;> simp [hs, hq, he]
  · next h =>
    refine ⟨nofun, ?_⟩
    rintro ⟨hs, e, rest, hq, -⟩
    exact absurd hq (h e rest hs)

theorem takeFiring_waiting (hw : (s.channel c).state = .waiting) (hq : (s.channel c).queue = e :: rest) (ctx : TickContext) :
    State.takeFiring k ctx c s = if e.start = .onTrigger k then (s.meetStart c e rest).holdBack ctx c else s := by
  have hwaits : (s.channel c).waitsOn = some k ↔ e.start = .onTrigger k := by
    simp [waitsOn_eq_some, hw, hq]
  have huntil : (s.channel c).untilOf = none := by simp [Channel.untilOf, hq, Channel.headStarted, hw]
  simp [State.takeFiring, hwaits, huntil, hq]

theorem takeFiring_runs (hs : (s.channel c).headStarted = true) (hq : (s.channel c).queue = e :: rest) (ctx : TickContext) :
    State.takeFiring k ctx c s =
      if e.untilTrig = some k then s.putChannel c (s.channel c).state ({ e with released := true } :: rest) else s := by
  have hwaits : ¬(s.channel c).waitsOn = some k := fun h => by
    rcases Channel.headStarted_iff.mp hs with hp | hp <;> exact absurd ((waitsOn_eq_some.mp h).1.symm.trans hp) (by decide)
  have huntil : (s.channel c).untilOf = e.untilTrig := by simp [Channel.untilOf, hq, hs]
  have hput : s.modChannel c (fun ch => { ch with queue := setHead (fun e => { e with released := true }) ch.queue }) =
      s.putChannel c (s.channel c).state ({ e with released := true } :: rest) := modChannel_eq_put (by rw [hq]; rfl)
  rw [State.takeFiring, if_neg hwaits, huntil, hput]

theorem takeFiring_stays (hw : (s.channel c).waitsOn ≠ some k) (hu : (s.channel c).untilOf ≠ some k) (ctx : TickContext) :
    State.takeFiring k ctx c s = s := by
  rw [State.takeFiring, if_neg hw, if_neg hu]

theorem untilOf_eq_none (h : (s.channel c).headStarted = false) : (s.channel c).untilOf = none := by
  unfold Channel.untilOf
  split <;> simp [h]

theorem takeFiring_idle (hs : (s.channel c).state = .stopped ∨ (s.channel c).state = .drained ∨ (s.channel c).queue = [])
    (ctx : TickContext) : State.takeFiring k ctx c s = s := by
  refine takeFiring_stays (fun h => ?_) (fun h => ?_) ctx
  · obtain ⟨hw, e, rest, hq, -⟩ := waitsOn_eq_some.mp h
    rcases hs with hs | hs | hs
    · rw [hs] at hw; cases hw
    · rw [hs] at hw; cases hw
    · rw [hs] at hq; cases hq
  · rcases hs with hs | hs | hs
    · rw [untilOf_eq_none (by simp [Channel.headStarted, hs])] at h; cases h
    · rw [untilOf_eq_none (by simp [Channel.headStarted, hs])] at h; cases h
    · simp [Channel.untilOf, hs] at h

theorem notAfter_eq (g c : Fin 4) (n : Word) : Delivery.notAfter g c n =
    fun d => decide (d.gen = g ∧ d.chan = c ∧ (n - d.tick).toNat < 2147483648) :=
  funext fun d => by simp only [Delivery.notAfter, Bool.decide_and, Bool.and_assoc]

/-- A head that a tick's fire mark has started on the tick's generator counts what emits nothing for it (R42). -/
theorem holdBack_tick {g : Fin 4} {n : Word} (hq : (s.channel c).queue = e :: rest) : s.holdBack (some (g, n)) c =
    if ((s.channel c).state = .playing ∨ (s.channel c).state = .starved) ∧ (s.channel c).activeGen = g then
      s.putChannel c (s.channel c).state ({ e with spent := s.deliveries.countP (Delivery.notAfter g c n) } :: rest)
    else s := by
  have hput : s.modChannel c (fun ch => { ch with
      queue := setHead (fun e => { e with spent := s.deliveries.countP (Delivery.notAfter g c n) }) ch.queue }) =
      s.putChannel c (s.channel c).state ({ e with spent := s.deliveries.countP (Delivery.notAfter g c n) } :: rest) :=
    modChannel_eq_put (by rw [hq]; rfl)
  simp only [State.holdBack, Channel.headStarted_iff, hput]

theorem holdBack_empty (hq : (s.channel c).queue = []) (ctx : TickContext) : s.holdBack ctx c = s := by
  cases ctx with
  | none => rfl
  | some p =>
    obtain ⟨g, n⟩ := p
    have hput : s.modChannel c (fun ch => { ch with
        queue := setHead (fun e => { e with spent := s.deliveries.countP (Delivery.notAfter g c n) }) ch.queue }) = s :=
      (modChannel_eq_put (by rw [hq]; rfl)).trans (putChannel_self hq)
    simp only [State.holdBack, hput, ite_self]

/-! ### What a firing leaves (R76) -/

/-- A channel that neither waits on the trigger nor names it as until stays. -/
theorem fireTrigger_channel_stays (hw : (s.channel c).waitsOn ≠ some k) (hu : (s.channel c).untilOf ≠ some k) (ctx : TickContext) :
    (forEach (State.takeFiring k ctx) allChannels (s.setTrigger k (s.fired k))).channel c = s.channel c := by
  have h := forEach_channel (f := State.takeFiring k ctx) (Only.takeFiring k ctx) (c := c) (s := s.setTrigger k (s.fired k))
    (x := s.channel c) (fun t ht => by
      rw [State.channel_setTrigger] at ht
      rw [takeFiring_stays (by rw [ht]; exact hw) (by rw [ht]; exact hu), ht]) (xs := allChannels) (by decide)
  rw [h, State.channel_setTrigger, ite_self]

/-- Where no channel waits on the trigger, a firing only releases heads. -/
theorem takeFiring_unwaited (h : ∀ c, (s.channel c).waitsOn ≠ some k) (c : Fin 4) (ctx : TickContext) :
    (State.takeFiring k ctx c s).pool = s.pool ∧ (State.takeFiring k ctx c s).notices = s.notices ∧
      ∀ d, ((State.takeFiring k ctx c s).channel d).waitsOn ≠ some k := by
  rw [State.takeFiring, if_neg (h c)]
  split
  · next hu =>
    refine ⟨rfl, rfl, fun d => ?_⟩
    by_cases hd : d = c
    · subst hd
      rw [State.channel_modChannel_self]
      intro hw
      have hwaiting : (s.channel d).state = .waiting := (Channel.waiting_of_waitsOn hw).1
      have hstarted := (Channel.started_of_untilOf hu).1
      simp [Channel.headStarted, hwaiting] at hstarted
    · rw [State.channel_modChannel_other _ hd]
      exact h d
  · exact ⟨rfl, rfl, h⟩

theorem forEach_unwaited (h : ∀ c, (s.channel c).waitsOn ≠ some k) (ctx : TickContext) (xs : List (Fin 4)) :
    (forEach (State.takeFiring k ctx) xs s).pool = s.pool ∧ (forEach (State.takeFiring k ctx) xs s).notices = s.notices := by
  induction xs generalizing s with
  | nil => exact ⟨rfl, rfl⟩
  | cons x xs ih =>
    obtain ⟨hp, hn, hw⟩ := takeFiring_unwaited h x ctx
    obtain ⟨hp', hn'⟩ := ih hw
    exact ⟨hp'.trans hp, hn'.trans hn⟩

end Firing

/-- Settles O32: what each channel does is `takeFiring`, and a firing is that for the four channels, between the count and the
report. -/
theorem firingsReachTheChannels : Obligations.FiringsReachTheChannels := by
  intro k tick s put starts holds acts fired u
  have hstarts (t : State) (c : Fin 4) (e : Entry) (rest : List Entry) (hw : (t.channel c).state = .waiting) :
      starts t c e rest = t.meetStart c e rest := by
    cases hg : t.segment? e.segment with
    | none =>
      simp only [starts, hg, Option.map_none]
      exact (meetStart_skipped (by simp [State.playable, hg]) hw).symm
    | some x =>
      cases hx : x.state with
      | failed =>
        simp only [starts, hg, Option.map_some, hx]
        exact (meetStart_skipped (playable_failed hg hx) hw).symm
      | ready | filling | loading =>
        simp only [starts, hg, Option.map_some, hx]
        have hplay := playable_live hg (by rw [hx]; decide)
        rw [hx] at hplay
        exact (meetStart_played hplay).symm
  have hholds (t : State) (c : Fin 4) : holds t c = t.holdBack tick c := by
    cases hq : (t.channel c).queue with
    | nil =>
      rw [holdBack_empty hq]
      cases tick <;> simp only [holds, hq]
    | cons e rest =>
      cases tick with
      | none => rfl
      | some p =>
        simp only [holds, hq]
        have h := holdBack_tick (g := p.1) (n := p.2) hq
        rw [notAfter_eq] at h
        exact h.symm
  have hacts (c : Fin 4) (t : State) : State.takeFiring k tick c t = acts t c := by
    cases hs : (t.channel c).state with
    | stopped => simp only [acts, hs, takeFiring_idle (.inl hs)]
    | drained => simp only [acts, hs, takeFiring_idle (.inr (.inl hs))]
    | waiting =>
      cases hq : (t.channel c).queue with
      | nil => simp only [acts, hs, hq, takeFiring_idle (.inr (.inr hq))]
      | cons e rest => simp only [acts, hs, hq, takeFiring_waiting hs hq, hholds, hstarts t c e rest hs]
    | playing =>
      cases hq : (t.channel c).queue with
      | nil => simp only [acts, hs, hq, takeFiring_idle (.inr (.inr hq))]
      | cons e rest =>
        simp only [acts, hs, hq, takeFiring_runs (Channel.headStarted_iff.mpr (.inl hs)) hq]
        rfl
    | starved =>
      cases hq : (t.channel c).queue with
      | nil => simp only [acts, hs, hq, takeFiring_idle (.inr (.inr hq))]
      | cons e rest =>
        simp only [acts, hs, hq, takeFiring_runs (Channel.headStarted_iff.mpr (.inr hs)) hq]
        rfl
  have hu : forEach (State.takeFiring k tick) allChannels (s.setTrigger k (s.fired k)) = u := by
    rw [forEach_eq_foldl]
    have hf : (fun (t : State) c => State.takeFiring k tick c t) = acts := funext fun t => funext fun c => hacts c t
    rw [hf]
    rfl
  have hmoves : Moves (s.setTrigger k (s.fired k)) u := hu ▸ Moves.forEach (Moves.takeFiring k tick) allChannels _
  refine ⟨?_, hmoves.frame, fun c hw hun => ?_, fun hw => ?_⟩
  · rw [← hu]
    rfl
  · rw [← hu]
    exact fireTrigger_channel_stays hw hun tick
  · rw [← hu]
    exact forEach_unwaited (s := s.setTrigger k (s.fired k)) hw tick allChannels

end Sys2Proof.Machine

/-! ## Samples of the Trigger Unit (R69–R76) -/

namespace Sys2Proof.Machine

-- The proofs are checked one after another, so that their memory is not asked for at once.
set_option Elab.async false

namespace Local

theorem meetStart (c : Fin 4) (e : Entry) (rest : List Entry) : Local (fun s => s.meetStart c e rest) := by
  intro s t
  have hplay : (s.onto t).playable e.segment = s.playable e.segment := rfl
  unfold State.meetStart
  dsimp only
  rw [hplay]
  cases s.playable e.segment with
  | some st => exact enterStarted c e rest st s t
  | none => exact skipHead c e rest s t

theorem holdBack (ctx : TickContext) (c : Fin 4) : Local (fun s => s.holdBack ctx c) := by
  intro s t
  have hc : (s.onto t).channel c = s.channel c := rfl
  unfold State.holdBack
  dsimp only
  rw [hc]
  split
  · rfl
  · split <;> rfl

theorem takeFiring (k : Fin 8) (ctx : TickContext) (c : Fin 4) : Local (State.takeFiring k ctx c) := by
  intro s t
  have hc : (s.onto t).channel c = s.channel c := rfl
  unfold State.takeFiring
  rw [hc]
  split
  · split
    · next e rest _ => exact (congrArg (fun u : State => u.holdBack ctx c) (meetStart c e rest s t)).trans (holdBack ctx c _ t)
    · rfl
  · split <;> rfl

/-- An operation of the players does not see the triggers. -/
theorem setTrigger {f : State → State} (h : Local f) (hm : ∀ s, Moves s (f s)) (s : State) (k : Fin 8) (x : Trigger) :
    f (s.setTrigger k x) = (f s).setTrigger k x := by
  have hs : f (s.setTrigger k x) = (f s).onto (s.setTrigger k x) := h s (s.setTrigger k x)
  rw [hs, (hm s).frame]
  rfl

end Local

/-! ### A firing and the other triggers -/

/-- The channels take a firing. -/
def State.deliverFiring (s : State) (k : Fin 8) (ctx : TickContext) : State := forEach (State.takeFiring k ctx) allChannels s

theorem deliverFiring_setTrigger (s : State) (k j : Fin 8) (ctx : TickContext) (x : Trigger) :
    (s.setTrigger j x).deliverFiring k ctx = (s.deliverFiring k ctx).setTrigger j x :=
  (Local.forEach (Local.takeFiring k ctx) allChannels).setTrigger (Moves.forEach (Moves.takeFiring k ctx) allChannels) s j x

/-- A firing: the count, the channels, the report. -/
theorem fireTrigger_eq (s : State) (k : Fin 8) (ctx : TickContext) : s.fireTrigger k ctx =
    if (s.fired k).notify then
      ((s.setTrigger k (s.fired k)).deliverFiring k ctx).notify .triggerFired (.trigger k)
        ((s.fired k).captured :: u32 (s.fired k).fires.toNat)
    else (s.setTrigger k (s.fired k)).deliverFiring k ctx := rfl

theorem setTrigger_comm (s : State) {j k : Fin 8} (h : j ≠ k) (x y : Trigger) :
    (s.setTrigger j x).setTrigger k y = (s.setTrigger k y).setTrigger j x := by
  have hv : (s.trig.triggers.set j x).set k y = (s.trig.triggers.set k y).set j x :=
    Vector.set_comm _ _ fun he => h (Fin.ext he)
  simp only [State.setTrigger, hv]

theorem fireTrigger_setTrigger (s : State) {j k : Fin 8} (h : j ≠ k) (x : Trigger) (ctx : TickContext) :
    (s.setTrigger j x).fireTrigger k ctx = (s.fireTrigger k ctx).setTrigger j x := by
  have hfired : (s.setTrigger j x).fired k = s.fired k := by
    simp only [State.fired, State.trigger_setTrigger_other s h.symm]
    rfl
  rw [fireTrigger_eq, fireTrigger_eq, hfired, setTrigger_comm s h, deliverFiring_setTrigger]
  split <;> rfl

/-! ### The order of a sample (notes/assumptions/11.md) -/

/-- The list with every element at its first place alone. -/
def firstPlaces (ts : List (Fin 8)) : List (Fin 8) := ts.foldr (fun t acc => t :: acc.filter (· ≠ t)) []

theorem firstPlaces_filter (p : Fin 8 → Bool) (ts : List (Fin 8)) : firstPlaces (ts.filter p) = (firstPlaces ts).filter p := by
  induction ts with
  | nil => rfl
  | cons t ts ih =>
    have hcons : firstPlaces (t :: ts) = t :: (firstPlaces ts).filter (· ≠ t) := rfl
    by_cases ht : p t = true
    · rw [List.filter_cons_of_pos ht, hcons, List.filter_cons_of_pos ht]
      show t :: (firstPlaces (ts.filter p)).filter (· ≠ t) = _
      rw [ih, List.filter_filter, List.filter_filter]
      simp only [Bool.and_comm]
    · rw [List.filter_cons_of_neg ht, hcons, List.filter_cons_of_neg ht, ih, List.filter_filter]
      refine List.filter_congr fun x hx => ?_
      by_cases hxt : x = t
      · simp [hxt, ht]
      · simp [hxt]

theorem firstPlaces_eq (ts : List (Fin 8)) : firstPlaces ts = ts.eraseDups := by
  induction hn : ts.length using Nat.strong_induction_on generalizing ts with
  | _ n ih =>
    cases ts with
    | nil => rfl
    | cons t ts =>
      have hlen : (ts.filter (fun b => !b == t)).length < n := by
        have := List.length_filter_le (fun b => !b == t) ts
        rw [← hn, List.length_cons]
        omega
      have hne : (fun b : Fin 8 => !b == t) = fun b => decide (b ≠ t) := funext fun b => by simp [beq_eq_decide]
      rw [List.eraseDups_cons, ← ih _ hlen _ rfl, hne, firstPlaces_filter]
      rfl

theorem mem_firstPlaces {t : Fin 8} {ts : List (Fin 8)} : t ∈ firstPlaces ts ↔ t ∈ ts := by
  rw [firstPlaces_eq, List.mem_eraseDups]

theorem firstPlaces_nodup (ts : List (Fin 8)) : (firstPlaces ts).Nodup := by
  induction ts with
  | nil => exact List.nodup_nil
  | cons t ts ih => exact List.nodup_cons.mpr ⟨by simp, ih.filter _⟩

theorem sampleOrder_eq (order : List (Fin 8)) :
    sampleOrder order = order.eraseDups ++ [0, 1, 2, 3, 4, 5, 6, 7].filter (fun k => !order.contains k) := by
  have hfirst : order.reverse.foldl (fun acc t => t :: acc.filter (· ≠ t)) [] = firstPlaces order := List.foldl_reverse
  have hrest : allLines.filter (fun t => !(firstPlaces order).contains t) = allLines.filter (fun k => !order.contains k) := by
    refine List.filter_congr fun t _ => ?_
    have hmem : (firstPlaces order).contains t = order.contains t := by
      rw [Bool.eq_iff_iff, List.contains_iff_mem, List.contains_iff_mem, mem_firstPlaces]
    rw [hmem]
  rw [sampleOrder, hfirst, hrest, firstPlaces_eq]
  rfl

theorem sampleOrder_nodup (order : List (Fin 8)) : (sampleOrder order).Nodup := by
  rw [sampleOrder_eq, ← firstPlaces_eq]
  refine List.Nodup.append (firstPlaces_nodup order) (List.Nodup.filter _ (by decide)) fun t ht ht' => ?_
  rw [List.mem_filter] at ht'
  simp [mem_firstPlaces.mp ht] at ht'

theorem mem_sampleOrder (order : List (Fin 8)) (t : Fin 8) : t ∈ sampleOrder order := by
  rw [sampleOrder_eq]
  by_cases h : t ∈ order
  · simp [h]
  · have hall : t ∈ ([0, 1, 2, 3, 4, 5, 6, 7] : List (Fin 8)) := by fin_cases t <;> simp
    exact List.mem_append_right _ (List.mem_filter.mpr ⟨hall, by simpa using h⟩)

/-! ### Every trigger examined, then those that reach their prescale fired -/

/-- Puts each trigger named. -/
def State.putTriggers (f : Fin 8 → Trigger) (ks : List (Fin 8)) (s : State) : State := forEach (fun k s => s.setTrigger k (f k)) ks s

theorem putTriggers_frame (f : Fin 8 → Trigger) (ks : List (Fin 8)) (s : State) :
    s.putTriggers f ks = { s with trig := { s.trig with triggers := (s.putTriggers f ks).trig.triggers } } := by
  induction ks generalizing s with
  | nil => rfl
  | cons k ks ih => exact ih (s.setTrigger k (f k))

theorem putTriggers_trigger (f : Fin 8 → Trigger) (ks : List (Fin 8)) (s : State) (j : Fin 8) :
    (s.putTriggers f ks).trigger j = if j ∈ ks then f j else s.trigger j := by
  induction ks generalizing s with
  | nil => rfl
  | cons k ks ih =>
    rw [show s.putTriggers f (k :: ks) = (s.setTrigger k (f k)).putTriggers f ks from rfl, ih]
    by_cases hj : j = k
    · subst hj
      simp
    · simp [hj, State.trigger_setTrigger_other s hj]

/-- All eight triggers put. -/
theorem putTriggers_all {ks : List (Fin 8)} (h : ∀ k, k ∈ ks) (f : Fin 8 → Trigger) (s : State) :
    s.putTriggers f ks = { s with trig := { s.trig with triggers := Vector.ofFn f } } := by
  have hv : (s.putTriggers f ks).trig.triggers = Vector.ofFn f := Vector.ext fun i hi => by
    have ht := putTriggers_trigger f ks s ⟨i, hi⟩
    rw [if_pos (h _)] at ht
    rw [Vector.getElem_ofFn]
    exact ht
  rw [putTriggers_frame, hv]

/-- A firing of a trigger that is not put comes before or after. -/
theorem putTriggers_fireTrigger (f : Fin 8 → Trigger) {k : Fin 8} {ks : List (Fin 8)} (hk : k ∉ ks) (ctx : TickContext) (s : State) :
    (s.fireTrigger k ctx).putTriggers f ks = (s.putTriggers f ks).fireTrigger k ctx := by
  induction ks generalizing s with
  | nil => rfl
  | cons j ks ih =>
    obtain ⟨hj, hks⟩ := not_or.mp (mt List.mem_cons.mpr hk)
    show ((s.fireTrigger k ctx).setTrigger j (f j)).putTriggers f ks = _
    rw [← fireTrigger_setTrigger s (Ne.symm hj)]
    exact ih hks _

/-- One trigger at a sample, from what it was. -/
theorem examineTrigger_eq {s : State} {k : Fin 8} {T : Trigger} (h : s.trigger k = T) (rises falls confirmed : Byte) :
    State.examineTrigger rises falls confirmed k s =
      if T.reaches rises falls confirmed then (s.setTrigger k (T.examine rises falls confirmed)).fireTrigger k none
      else s.setTrigger k (T.examine rises falls confirmed) := by
  rw [← h]
  rfl

/-- A walk through triggers, each examined and fired in its turn, is all of them examined and then those that reach fired. -/
theorem forEach_examineTrigger (T : Fin 8 → Trigger) (rises falls confirmed : Byte) {ks : List (Fin 8)} (hk : ks.Nodup) (s : State)
    (hT : ∀ k ∈ ks, s.trigger k = T k) : forEach (State.examineTrigger rises falls confirmed) ks s =
      forEach (fun k s => s.fireTrigger k none) (ks.filter (fun k => (T k).reaches rises falls confirmed))
        (s.putTriggers (fun k => (T k).examine rises falls confirmed) ks) := by
  induction ks generalizing s with
  | nil => rfl
  | cons k ks ih =>
    obtain ⟨hk', hks⟩ := List.nodup_cons.mp hk
    have hother (j : Fin 8) (hj : j ∈ ks) : j ≠ k := fun he => hk' (he ▸ hj)
    have hset : ∀ j ∈ ks, (s.setTrigger k ((T k).examine rises falls confirmed)).trigger j = T j := fun j hj => by
      rw [State.trigger_setTrigger_other s (hother j hj)]
      exact hT j (List.mem_cons_of_mem _ hj)
    show forEach (State.examineTrigger rises falls confirmed) ks (State.examineTrigger rises falls confirmed k s) = _
    rw [examineTrigger_eq (hT k List.mem_cons_self)]
    by_cases hr : (T k).reaches rises falls confirmed = true
    · rw [if_pos hr, List.filter_cons_of_pos (p := fun k => (T k).reaches rises falls confirmed) hr]
      refine (ih hks _ fun j hj => ?_).trans ?_
      · rw [fireTrigger_trigger, State.trigger_setTrigger_other _ (hother j hj)]
        exact hset j hj
      · rw [putTriggers_fireTrigger _ hk']
        rfl
    · rw [if_neg hr, List.filter_cons_of_neg (p := fun k => (T k).reaches rises falls confirmed) hr]
      exact ih hks _ hset

/-- What firings leave of each trigger. -/
theorem forEach_fireTrigger_trigger {ks : List (Fin 8)} (hk : ks.Nodup) (s : State) (j : Fin 8) :
    (forEach (fun k s => s.fireTrigger k none) ks s).trigger j = if j ∈ ks then s.fired j else s.trigger j := by
  induction ks generalizing s with
  | nil => rfl
  | cons k ks ih =>
    obtain ⟨hk', hks⟩ := List.nodup_cons.mp hk
    have hconf : (s.fireTrigger k none).trig.confirmed = s.trig.confirmed := by rw [(fireTrigger_moves k none s).frame]; rfl
    refine (ih hks (s.fireTrigger k none)).trans ?_
    by_cases hj : j = k
    · subst hj
      simp [hk', fireTrigger_trigger]
    · simp [hj, State.fired, fireTrigger_trigger, State.trigger_setTrigger_other s hj, hconf]

/-! ### Confirmation (R69, R70) -/

theorem line_getLsbD : ∀ n i : Fin 8, BitVec.getLsbD ((1 <<< n.val : ℕ) : Byte) i.val = decide (i = n) := by decide

theorem foldl_or_getLsbD (p : Fin 8 → Bool) (ns : List (Fin 8)) (b : Byte) (i : Fin 8) :
    (ns.foldl (fun (b : Byte) n => if p n then b ||| (1 <<< n.val) else b) b).getLsbD i.val = (b.getLsbD i.val || (decide (i ∈ ns) && p i)) := by
  induction ns generalizing b with
  | nil => simp
  | cons n ns ih =>
    rw [List.foldl_cons, ih]
    by_cases hp : p n = true
    · rw [if_pos hp, BitVec.getLsbD_or, line_getLsbD]
      by_cases hi : i = n
      · subst hi
        simp [hp]
      · simp [hi]
    · rw [if_neg hp]
      by_cases hi : i = n
      · subst hi
        simp [hp]
      · simp [hi]

theorem byteOf_getLsbD (p : Fin 8 → Bool) (i : Fin 8) : (byteOf p).getLsbD i.val = p i := by
  have hi : i ∈ allLines := by fin_cases i <;> simp [allLines]
  rw [byteOf, foldl_or_getLsbD]
  simp [hi]

theorem confirmedLine_level (u : TriggerUnit) (levels : Byte) (n : Fin 8) : (u.confirmedLine levels n).2 =
    if u.runs[n] + 1 = u.confirm then levels.getLsbD n.val else u.confirmed.getLsbD n.val := by
  unfold TriggerUnit.confirmedLine confirmLine
  by_cases hl : levels.getLsbD n.val = u.confirmed.getLsbD n.val
  · rw [if_pos hl, hl, ite_self]
  · rw [if_neg hl]
    split <;> rfl

theorem confirmedLine_run (u : TriggerUnit) (levels : Byte) (n : Fin 8) : (u.confirmedLine levels n).1 =
    if levels.getLsbD n.val = u.confirmed.getLsbD n.val ∨ u.runs[n] + 1 = u.confirm then 0 else u.runs[n] + 1 := by
  unfold TriggerUnit.confirmedLine confirmLine
  by_cases hl : levels.getLsbD n.val = u.confirmed.getLsbD n.val
  · rw [if_pos hl, if_pos (.inl hl)]
  · rw [if_neg hl]
    by_cases hr : u.runs[n] + 1 = u.confirm
    · rw [if_pos hr, if_pos (.inr hr)]
    · rw [if_neg hr, if_neg (not_or.mpr ⟨hl, hr⟩)]

/-- The lines that rise and those that fall are those that change. -/
theorem rises_or_falls (now old : Byte) : (now &&& ~~~old) ||| (old &&& ~~~now) = now ^^^ old := by
  refine BitVec.eq_of_getLsbD_eq fun i hi => ?_
  simp only [BitVec.getLsbD_or, BitVec.getLsbD_and, BitVec.getLsbD_not, BitVec.getLsbD_xor, hi]
  cases now.getLsbD i <;> cases old.getLsbD i <;> rfl

/-! ### The events -/

/-- Each trigger at the first sample (R71). -/
theorem firstSample_trigger (s : State) (levels : Byte) (k : Fin 8) :
    (s.firstSample levels).trigger k = { s.trigger k with matched := (s.trigger k).nextMatched levels } := by
  simp [State.firstSample, State.trigger]

theorem exec_sample {s : State} (h : s.alive = true) (levels : Byte) (order : List (Fin 8)) :
    exec (.sample levels order) s = .next (s.takeSample levels order).arbitrate :=
  congrArg Host.Outcome.next (event_alive h _)

/-- Settles O39: a later sample's walk is all triggers examined, then those that reach their prescale fired. -/
theorem sampleIsTaken : Obligations.SampleIsTaken := by
  intro levels order s ha
  rw [exec_sample ha]
  refine ⟨fun hfirst => ⟨s.firstSample levels, ?_, rfl, fun k => ?_⟩, fun hlater =>
    ⟨(s.trig.confirmAll levels).confirmed, ?_⟩⟩
  · rw [State.takeSample, if_neg (by simp [hfirst])]
  · rw [firstSample_trigger]
    cases hm : (s.trigger k).mode <;> simp only [Trigger.nextMatched, hm] <;> rfl
  intro old changed hit occurs fires examined inOrder u
  let now := (s.trig.confirmAll levels).confirmed
  have hoccurs (x : Trigger) : x.occurs (now &&& ~~~old) (old &&& ~~~now) now = occurs x := by
    cases hm : x.mode with
    | off | soft => simp only [Trigger.occurs, occurs, hm]
    | matching =>
      simp only [Trigger.occurs, occurs, hm]
      rfl
    | change =>
      cases he : x.edge with
      | rise | fall =>
        simp only [Trigger.occurs, Trigger.changes, occurs, changed, hm, he]
        rfl
      | any =>
        simp only [Trigger.occurs, Trigger.changes, rises_or_falls, occurs, changed, hm, he]
        rfl
  have hfires (k : Fin 8) : (s.trigger k).reaches (now &&& ~~~old) (old &&& ~~~now) now = fires k := by
    rw [Trigger.reaches, hoccurs]
  have hexamine (k : Fin 8) : (s.trigger k).examine (now &&& ~~~old) (old &&& ~~~now) now = { s.trigger k with
      matched := if (s.trigger k).mode = .matching then hit (s.trigger k) else (s.trigger k).matched
      count := if fires k then 0 else if occurs (s.trigger k) then (s.trigger k).count + 1 else (s.trigger k).count } := by
    have hmatched : (s.trigger k).nextMatched now =
        if (s.trigger k).mode = .matching then hit (s.trigger k) else (s.trigger k).matched := by
      cases hm : (s.trigger k).mode <;> simp only [Trigger.nextMatched, hm] <;> rfl
    have hcount : (if occurs (s.trigger k) = true then (s.trigger k).nextCount else (s.trigger k).count) =
        if fires k then 0 else if occurs (s.trigger k) then (s.trigger k).count + 1 else (s.trigger k).count := by
      cases ho : occurs (s.trigger k) with
      | false => simp [fires, ho]
      | true =>
        by_cases hc : (s.trigger k).count + 1 = (s.trigger k).prescale <;> simp [fires, ho, hc, Trigger.nextCount]
    rw [Trigger.examine, hmatched, hoccurs, hcount]
  have hexamined : State.putTriggers (fun k => (s.trigger k).examine (now &&& ~~~old) (old &&& ~~~now) now) (sampleOrder order)
      { s with trig := s.trig.confirmAll levels } = examined := by
    rw [putTriggers_all (mem_sampleOrder order)]
    have hruns : (s.trig.confirmAll levels).runs = Vector.ofFn (fun n : Fin 8 =>
        if levels.getLsbD n.val = old.getLsbD n.val ∨ s.trig.runs[n] + 1 = s.trig.confirm then 0 else s.trig.runs[n] + 1) :=
      congrArg Vector.ofFn (funext fun n => confirmedLine_run s.trig levels n)
    simp only [funext hexamine, examined, ← hruns]
    rfl
  have hnodup := sampleOrder_nodup order
  have hwalk : s.takeSample levels order = u := by
    rw [State.takeSample, if_pos hlater]
    refine (forEach_examineTrigger (fun k => s.trigger k) (now &&& ~~~old) (old &&& ~~~now) now hnodup
      { s with trig := s.trig.confirmAll levels } fun _ _ => rfl).trans ?_
    rw [hexamined, forEach_eq_foldl, funext hfires]
    show _ = (inOrder.filter fires).foldl _ _
    rw [show inOrder = sampleOrder order from (sampleOrder_eq order).symm]
  refine ⟨by rw [hwalk], fun n => ?_, fun k => ?_, fun hnone => ?_⟩
  · exact (byteOf_getLsbD _ n).trans (confirmedLine_level s.trig levels n)
  · have hx (j : Fin 8) : fires j = true ↔ j ∈ inOrder.filter fires := by
      rw [List.mem_filter, show inOrder = sampleOrder order from (sampleOrder_eq order).symm]
      simp [mem_sampleOrder]
    have hu : u = forEach (fun k s => s.fireTrigger k none) (inOrder.filter fires) examined := (forEach_eq_foldl _ _ _).symm
    have hord : (inOrder.filter fires).Nodup := by
      rw [show inOrder = sampleOrder order from (sampleOrder_eq order).symm]
      exact hnodup.filter _
    have hex : examined.trigger k = { s.trigger k with
        matched := if (s.trigger k).mode = .matching then hit (s.trigger k) else (s.trigger k).matched
        count := if fires k then 0 else if occurs (s.trigger k) then (s.trigger k).count + 1 else (s.trigger k).count } := by
      simp only [examined, State.trigger, Fin.getElem_fin, Vector.getElem_ofFn]
    rw [hu, forEach_fireTrigger_trigger hord]
    by_cases hk : fires k = true
    · rw [if_pos ((hx k).mp hk), if_pos hk, if_pos hk, State.fired, hex]
    · rw [if_neg (mt (hx k).mpr hk), if_neg hk, if_neg hk, hex]
  · have hempty : inOrder.filter fires = [] := List.filter_eq_nil_iff.mpr fun k _ => by simp [hnone k]
    have hu : u = examined := congrArg (List.foldl (fun (t : State) k => t.fireTrigger k none) examined) hempty
    rw [hu]
    exact ⟨rfl, rfl, rfl⟩

end Sys2Proof.Machine

/-! ## Playing: what a delivery does at its channel (R28, R35–R42) -/

namespace Sys2Proof.Machine

-- The proofs are checked one after another, so that their memory is not asked for at once.
set_option Elab.async false

/-! ### The steps after the marks (R35, R39–R41) -/

section Advance
variable {s : State} {c : Fin 4} {e : Entry} {rest : List Entry} {n : Nat}

/-- The head leaves after its last pass: ENTRY_DONE, then the release, with `x` the channel without it. -/
def State.headLeaves (s : State) (c : Fin 4) (e : Entry) (passes : Nat) (x : Channel) : State :=
  State.releaseRef { s with
    channels := s.channels.set c x
    notices := if e.notify = true then s.notices.produce .entryDone (.channel c) (e.segment :: u16 passes) else s.notices } e.segment

theorem headLeaves_channel (p : Nat) (x : Channel) : (s.headLeaves c e p x).channel c = x := by
  rw [State.headLeaves, State.channel_releaseRef]
  exact State.channel_setChannel_self ..

theorem removal_eq (p : Nat) (x : Channel) :
    ((((s.setChannel c x).entryDone c { e with passes := p }).modChannel c fun ch => { ch with queue := rest }).releaseRef e.segment) =
      s.headLeaves c e p { x with queue := rest } := by
  unfold State.entryDone State.headLeaves
  dsimp only
  split
  · rw [State.modChannel, State.channel_notify, State.channel_setChannel_self]
    refine congrArg (fun u : State => u.releaseRef e.segment) ?_
    exact congrArg (fun u : State => { u with notices := s.notices.produce .entryDone (.channel c) (e.segment :: u16 p) })
      (State.setChannel_setChannel s c x { x with queue := rest })
  · rw [State.modChannel, State.channel_setChannel_self, State.setChannel_setChannel]
    rfl

theorem headLeaves_enterStopped (p : Nat) (x : Channel) : (s.headLeaves c e p x).enterStopped c = s.headLeaves c e p { x with
    state := .stopped, output := x.restCode, m0 := .low, m1 := .low, activeGen := x.defaultGen } := by
  rw [State.headLeaves, enterStopped_releaseRef, State.enterStopped, State.modChannel]
  refine congrArg (fun u : State => u.releaseRef e.segment) ?_
  have hc : State.channel { s with
      channels := s.channels.set c x
      notices := if e.notify = true then s.notices.produce .entryDone (.channel c) (e.segment :: u16 p) else s.notices } c = x :=
    State.channel_setChannel_self ..
  rw [hc]
  exact congrArg (fun u : State => { u with notices :=
    if e.notify = true then s.notices.produce .entryDone (.channel c) (e.segment :: u16 p) else s.notices })
    (State.setChannel_setChannel s c x _)

/-- The end action of a completed entry (R41). -/
theorem endAction_eq (v : State) (c : Fin 4) (a : EndAction) : v.endAction c a =
    if a = .rest ∧ (v.channel c).state ≠ .playing then
      { v with channels := v.channels.set c { v.channel c with output := (v.channel c).restCode } }
    else v := by
  unfold State.endAction
  cases a with
  | hold => simp
  | rest =>
    by_cases hp : (v.channel c).state = .playing
    · simp [hp]
    · simp only [hp, if_false, ne_eq, not_false_eq_true, and_self, if_true]
      rfl

theorem advance_within (hq : (s.channel c).queue = e :: rest) (h : e.cursor + 1 ≠ n) : s.advance c n = { s with
    channels := s.channels.set c { s.channel c with
      counter := (s.channel c).counter + 1, queue := { e with cursor := e.cursor + 1 } :: rest } } := by
  simp only [State.advance, hq, h, if_false]
  rfl

theorem advance_end (hq : (s.channel c).queue = e :: rest) (h : e.cursor + 1 = n) : s.advance c n =
    (s.setChannel c { s.channel c with
      counter := (s.channel c).counter + 1, queue := { e with cursor := e.cursor + 1 } :: rest }).passEnd c
        { e with cursor := e.cursor + 1 } rest := by
  simp only [State.advance, hq, h, if_true]
  rfl

theorem advance_passes (hq : (s.channel c).queue = e :: rest) (h : e.cursor + 1 = n)
    (hc : e.completes (nextPasses e.repeats e.passes) = false) : s.advance c n = { s with
      channels := s.channels.set c { s.channel c with
        counter := (s.channel c).counter + 1
        queue := { e with cursor := 0, passes := nextPasses e.repeats e.passes } :: rest } } := by
  have hc' : Entry.completes { e with cursor := e.cursor + 1 } (nextPasses e.repeats e.passes) = false := hc
  rw [advance_end hq h, State.passEnd]
  dsimp only
  rw [hc', if_neg Bool.false_ne_true, State.modChannel, State.channel_setChannel_self, State.setChannel_setChannel]
  rfl

theorem advance_completes (hq : (s.channel c).queue = e :: rest) (h : e.cursor + 1 = n)
    (hc : e.completes (nextPasses e.repeats e.passes) = true) : s.advance c n =
      if e.stopPending then (s.headLeaves c e (nextPasses e.repeats e.passes) { s.channel c with
        counter := (s.channel c).counter + 1, queue := rest }).enterStopped c
      else ((s.headLeaves c e (nextPasses e.repeats e.passes) { s.channel c with
        counter := (s.channel c).counter + 1, queue := rest }).evaluateHead c).endAction c e.endAction := by
  have hc' : Entry.completes { e with cursor := e.cursor + 1 } (nextPasses e.repeats e.passes) = true := hc
  have hleaves := removal_eq (s := s) (c := c) (rest := rest) (e := { e with cursor := e.cursor + 1 }) (nextPasses e.repeats e.passes)
    { s.channel c with counter := (s.channel c).counter + 1, queue := { e with cursor := e.cursor + 1 } :: rest }
  rw [advance_end hq h, State.passEnd]
  dsimp only
  rw [hc', if_pos rfl, State.completeHead]
  dsimp only at hleaves ⊢
  rw [hleaves]
  rfl

end Advance

/-! ### The marks of the position (R36–R38, R78) -/

section Marks
variable {s : State} {c g : Fin 4} {n : Word} {e : Entry} {rest : List Entry}

theorem applyMark_none {m : Mark} (h : m.fire = none) : State.applyMark c g n m s = s.modChannel c (Channel.mark g m) := by
  simp only [State.applyMark, h]

theorem applyMark_fire {m : Mark} {k : Fin 8} (h : m.fire = some k) :
    State.applyMark c g n m s = (s.modChannel c (Channel.mark g m)).markFiring k (some (g, n)) := by
  simp only [State.applyMark, h]

theorem markFiring_off {k : Fin 8} (h : (s.trigger k).mode = .off) (ctx : TickContext) : s.markFiring k ctx = s := if_pos h

theorem markFiring_on {k : Fin 8} (h : (s.trigger k).mode ≠ .off) (ctx : TickContext) : s.markFiring k ctx = s.fireTrigger k ctx :=
  if_neg h

/-- A firing leaves the modes of the triggers. -/
theorem fireTrigger_mode (k : Fin 8) (ctx : TickContext) (s : State) (j : Fin 8) :
    ((s.fireTrigger k ctx).trigger j).mode = (s.trigger j).mode := by
  rw [fireTrigger_trigger]
  by_cases h : j = k
  · subst h
    rw [State.trigger_setTrigger_self]
    rfl
  · rw [State.trigger_setTrigger_other s h]

theorem applyMark_mode (m : Mark) (j : Fin 8) : ((State.applyMark c g n m s).trigger j).mode = (s.trigger j).mode := by
  cases hf : m.fire with
  | none => rw [applyMark_none hf, State.trigger_modChannel]
  | some k =>
    rw [applyMark_fire hf, State.markFiring]
    split
    · rw [State.trigger_modChannel]
    · rw [fireTrigger_mode, State.trigger_modChannel]

/-- A mark whose firing frees the head: its trigger is not OFF and is the head's until trigger (R44). -/
def Mark.frees (s : State) (e : Entry) (m : Mark) : Bool :=
  match m.fire with
  | some k => decide ((s.trigger k).mode ≠ .off ∧ e.untilTrig = some k)
  | none => false

theorem mark_channel (m : Mark) (ch : Channel) : ∃ l0 l1, ch.mark g m = { ch with m0 := l0, m1 := l1 } := by
  unfold Channel.mark
  split
  · exact ⟨_, _, rfl⟩
  · exact ⟨_, _, rfl⟩

theorem freedBy_head {ch : Channel} (hs : ch.state = .playing) (hq : ch.queue = e :: rest) (k : Fin 8) :
    ch.freedBy k = { ch with queue := { e with released := e.released || decide (e.untilTrig = some k) } :: rest } := by
  have huntil : ch.untilOf = e.untilTrig := by simp [Channel.untilOf, hq, Channel.headStarted, hs]
  unfold Channel.freedBy
  rw [huntil, hq]
  by_cases hk : e.untilTrig = some k
  · simp [hk, setHead]
  · simp [hk, ← hq]

/-- What a mark makes of the channel that plays its sample: the lines, and the head freed by its own firing. -/
theorem applyMark_channel (hs : (s.channel c).state = .playing) (hq : (s.channel c).queue = e :: rest) (m : Mark) :
    ∃ l0 l1, (State.applyMark c g n m s).channel c = { s.channel c with
      m0 := l0, m1 := l1, queue := { e with released := e.released || m.frees s e } :: rest } := by
  obtain ⟨l0, l1, hmark⟩ := mark_channel (g := g) m (s.channel c)
  have hch : (s.modChannel c (Channel.mark g m)).channel c = { s.channel c with m0 := l0, m1 := l1 } := by
    rw [State.channel_modChannel_self, hmark]
  refine ⟨l0, l1, ?_⟩
  cases hf : m.fire with
  | none => simp [applyMark_none hf, hch, Mark.frees, hf, ← hq]
  | some k =>
    rw [applyMark_fire hf]
    by_cases hoff : (s.trigger k).mode = .off
    · rw [markFiring_off (s := s.modChannel c (Channel.mark g m)) hoff, hch]
      simp [Mark.frees, hf, hoff, ← hq]
    · have hplays : ((s.modChannel c (Channel.mark g m)).channel c).state = .playing := by rw [hch]; exact hs
      rw [markFiring_on (s := s.modChannel c (Channel.mark g m)) hoff, fireTrigger_started (Channel.headStarted_iff.mpr (.inl hplays)), hch,
        freedBy_head (by exact hs) (by exact hq)]
      simp [Mark.frees, hf, hoff]

/-- The marks of a position, one after another. -/
theorem applyMarks_channel (ms : List Mark) (hs : (s.channel c).state = .playing) (hq : (s.channel c).queue = e :: rest) :
    ∃ l0 l1, (forEach (State.applyMark c g n) ms s).channel c = { s.channel c with
      m0 := l0, m1 := l1, queue := { e with released := e.released || ms.any (Mark.frees s e) } :: rest } := by
  induction ms generalizing s e with
  | nil => exact ⟨(s.channel c).m0, (s.channel c).m1, by simp [forEach, ← hq]⟩
  | cons m ms ih =>
    obtain ⟨l0, l1, hm⟩ := applyMark_channel (g := g) (n := n) hs hq m
    obtain ⟨k0, k1, hms⟩ := ih (s := State.applyMark c g n m s) (e := { e with released := e.released || m.frees s e })
      (by rw [hm]; exact hs) (by rw [hm])
    have hfrees : Mark.frees (State.applyMark c g n m s) { e with released := e.released || m.frees s e } = Mark.frees s e :=
      funext fun x => by
        unfold Mark.frees
        split
        · rw [applyMark_mode]
        · rfl
    refine ⟨k0, k1, ?_⟩
    rw [hfrees] at hms
    refine hms.trans ?_
    rw [hm, List.any_cons, Bool.or_assoc]

end Marks

/-! ### The delivery (R35, R61) -/

section Deliver
variable {s : State} {c g : Fin 4} {d : Delivery} {xs ys : List Delivery} {e : Entry} {rest : List Entry} {x : Segment}

theorem exec_tickDelivery (h : s.alive = true) (c g : Fin 4) :
    exec (.tickDelivery c g) s = .next (s.deliver c g).arbitrate := congrArg Host.Outcome.next (event_alive h _)

theorem deliver_none (h : ∀ d ∈ s.deliveries, ¬(d.gen = g ∧ d.chan = c)) : s.deliver c g = s := by
  have hfind : s.deliveries.find? (Delivery.isTo c g) = none :=
    List.find?_eq_none.mpr fun d hd hto => h d hd (by simpa [Delivery.isTo] using hto)
  simp [State.deliver, hfind]

theorem deliver_first (hd : s.deliveries = xs ++ d :: ys) (hg : d.gen = g) (hc : d.chan = c)
    (hx : ∀ x ∈ xs, ¬(x.gen = g ∧ x.chan = c)) : s.deliver c g = State.takeTick { s with deliveries := xs ++ ys } d := by
  have hto : Delivery.isTo c g d = true := by simp [Delivery.isTo, hg, hc]
  have hbefore : ∀ y ∈ xs, Delivery.isTo c g y = false := fun y hy => by
    have := hx y hy
    simpa [Delivery.isTo] using this
  have hfind : s.deliveries.find? (Delivery.isTo c g) = some d := by rw [hd]; exact find?_append_first hbefore hto
  have herase : s.deliveries.eraseP (Delivery.isTo c g) = xs ++ ys := by rw [hd]; exact eraseP_append_first hbefore hto
  simp [State.deliver, hfind, herase]

/-- A delivery at which the channel emits nothing: its pulses end, and a head that holds it back counts it (R37, R42). -/
theorem takeTick_silent (h : (s.channel d.chan).emitsAt d = false) : s.takeTick d = { s with
    channels := s.channels.set d.chan { (s.channel d.chan).letPass d.gen with
      m0 := (s.channel d.chan).m0.endPulse d.gen, m1 := (s.channel d.chan).m1.endPulse d.gen } } := by
  rw [State.takeTick, h]
  rfl

/-- The state in which the marks of a delivery's sample act: the pulses ended, the sample out, the instant kept. -/
def State.sampled (s : State) (d : Delivery) (x : Segment) (cursor : Nat) : State :=
  { s with channels := s.channels.set d.chan { s.channel d.chan with
      m0 := (s.channel d.chan).m0.endPulse d.gen, m1 := (s.channel d.chan).m1.endPulse d.gen
      output := readSample s.pool.mem x.blocks cursor, emittedAt := s.emittedWith d } }

theorem letPass_eq_self {ch : Channel} (h : ch.holds g = false) : ch.letPass g = ch := by
  rw [Channel.letPass, h]
  rfl

theorem emit_eq (hq : (s.channel d.chan).queue = e :: rest) (hx : s.segment? e.segment = some x) : s.emit d =
    (forEach (State.applyMark d.chan d.gen d.tick) (x.marks.filter (fun m => m.position = e.cursor)) (s.modChannel d.chan (fun ch =>
      { ch with output := readSample s.pool.mem x.blocks e.cursor, emittedAt := s.emittedWith d }))).advance d.chan x.length := by
  simp only [State.emit, hq, hx]

/-- The instants kept do not depend on the lines. -/
theorem emittedWith_setChannel {y : Channel} (h : y.emittedAt = (s.channel d.chan).emittedAt) :
    (s.setChannel d.chan y).emittedWith d = s.emittedWith d := by
  rw [State.emittedWith, State.channel_setChannel_self, h]
  rfl

/-- A delivery at which the channel emits. -/
theorem takeTick_emits (hs : (s.channel d.chan).state = .playing) (hg : (s.channel d.chan).activeGen = d.gen)
    (hi : d.instant ∉ (s.channel d.chan).emittedAt) (hq : (s.channel d.chan).queue = e :: rest) (hspent : e.spent = 0)
    (hx : s.segment? e.segment = some x) : s.takeTick d =
      (forEach (State.applyMark d.chan d.gen d.tick) (x.marks.filter (fun m => m.position = e.cursor))
        (s.sampled d x e.cursor)).advance d.chan x.length := by
  have hholds : (s.channel d.chan).holds d.gen = false := by simp [Channel.holds, hq, hspent]
  have hemits : (s.channel d.chan).emitsAt d = true := by simp [Channel.emitsAt, hs, hg, hi, hholds]
  rw [State.takeTick, hemits, if_pos rfl, State.modChannel, letPass_eq_self hholds]
  refine (emit_eq (e := e) (rest := rest) (x := x) (by rw [State.channel_setChannel_self]; exact hq) (by exact hx)).trans ?_
  rw [emittedWith_setChannel (by rfl), State.modChannel, State.channel_setChannel_self, State.setChannel_setChannel]
  rfl

end Deliver

/-! ### The head's part of a tick, after the marks -/

section Steps
variable {s t : State} {c : Fin 4} {e : Entry} {rest : List Entry} {n : Nat} {freed : Bool}

/-- The head completes at this pass end (R39). -/
def completesFreed (e : Entry) (freed : Bool) : Prop :=
  (0 < e.repeats ∧ nextPasses e.repeats e.passes = e.repeats) ∨ freed = true ∨ e.stopPending = true

theorem completes_iff : Entry.completes { e with released := freed } (nextPasses e.repeats e.passes) = true ↔ completesFreed e freed := by
  simp [Entry.completes, completesFreed, or_assoc]

theorem advance_goesOn (hq : (t.channel c).queue = { e with released := freed } :: rest) (h : e.cursor + 1 = n)
    (hr : e.released = true → freed = true) (hc : ¬completesFreed e freed) : t.advance c n = { t with
      channels := t.channels.set c { t.channel c with
        counter := (t.channel c).counter + 1
        queue := { e with cursor := 0, passes := nextPasses e.repeats e.passes } :: rest } } := by
  have hfreed : freed = false := Bool.eq_false_iff.mpr fun hf => hc (.inr (.inl hf))
  have hnot : e.released = false := Bool.eq_false_iff.mpr fun hr' => by simp [hr hr'] at hfreed
  have hcomp := Bool.eq_false_iff.mpr (mt completes_iff.mp hc)
  rw [advance_passes hq h hcomp, hfreed, ← hnot]

theorem advance_stops (hq : (t.channel c).queue = { e with released := freed } :: rest) (h : e.cursor + 1 = n)
    (hs : e.stopPending = true) : t.advance c n = t.headLeaves c e (nextPasses e.repeats e.passes) { t.channel c with
      counter := (t.channel c).counter + 1, queue := rest, state := .stopped, output := (t.channel c).restCode, m0 := .low
      m1 := .low, activeGen := (t.channel c).defaultGen } := by
  rw [advance_completes hq h (completes_iff.mpr (.inr (.inr hs)))]
  dsimp only
  rw [hs, if_pos rfl, headLeaves_enterStopped]
  rfl

theorem evaluateHead_restCode (v : State) (c : Fin 4) : ((v.evaluateHead c).channel c).restCode = (v.channel c).restCode := by
  obtain ⟨st, a, q, h, -, -⟩ := evaluateHead_channel v c
  rw [h]

theorem advance_evaluates (hq : (t.channel c).queue = { e with released := freed } :: rest) (h : e.cursor + 1 = n)
    (hc : completesFreed e freed) (hs : e.stopPending = false) :
    let v := (t.headLeaves c e (nextPasses e.repeats e.passes) { t.channel c with
      counter := (t.channel c).counter + 1, queue := rest }).evaluateHead c
    t.advance c n = if e.endAction = .rest ∧ (v.channel c).state ≠ .playing then
        { v with channels := v.channels.set c { v.channel c with output := (t.channel c).restCode } }
      else v := by
  intro v
  have hrest : (v.channel c).restCode = (t.channel c).restCode := by
    rw [evaluateHead_restCode, headLeaves_channel]
  have hend : t.advance c n = v.endAction c e.endAction :=
    (advance_completes hq h (completes_iff.mpr hc)).trans (if_neg (by simp [hs]))
  rw [hend, endAction_eq, hrest]

theorem any_frees_iff {ms : List Mark} : ms.any (Mark.frees s e) = true ↔
    ∃ m ∈ ms, ∃ k, m.fire = some k ∧ (s.trigger k).mode ≠ .off ∧ e.untilTrig = some k := by
  have hfrees (m : Mark) : m.frees s e = true ↔ ∃ k, m.fire = some k ∧ (s.trigger k).mode ≠ .off ∧ e.untilTrig = some k := by
    unfold Mark.frees
    cases m.fire <;> simp
  simp only [List.any_eq_true, hfrees]

end Steps

/-- Settles O31: a mark, and a tick that emits, as the marks and the steps after them. -/
theorem marksAct : Obligations.MarksAct := by
  refine ⟨fun c g n m s => ?_, fun c g s xs ys d e rest x ha hd hg hc hx hi hs hag hq hspent hseg => ?_⟩
  · intro ch old new u
    have hmark : s.modChannel c (Channel.mark g m) = u := by
      rw [State.modChannel, Channel.mark]
      show s.setChannel c _ = s.setChannel c _
      cases hl : m.line <;> simp only [new, old, hl, ch] <;> cases m.action <;> rfl
    refine ⟨fun hf => (applyMark_none hf).trans hmark, fun k hf => ⟨fun hoff => ?_, fun hon => ?_⟩⟩
    · refine (applyMark_fire hf).trans ?_
      rw [hmark]
      exact markFiring_off (s := u) hoff _
    · refine (applyMark_fire hf).trans ?_
      rw [hmark]
      exact markFiring_on (s := u) hon _
  · subst hg hc
    intro ended here t freed passes completes played done left
    let base : State := State.sampled { s with deliveries := xs ++ ys } d x e.cursor
    have hbase : base.channel d.chan = { s.channel d.chan with
        m0 := ended (s.channel d.chan).m0, m1 := ended (s.channel d.chan).m1, output := readSample s.pool.mem x.blocks e.cursor
        emittedAt := State.emittedWith { s with deliveries := xs ++ ys } d } := State.channel_setChannel_self ..
    have ht : t = forEach (State.applyMark d.chan d.gen d.tick) here base := (forEach_eq_foldl _ here base).symm
    obtain ⟨l0, l1, hch⟩ := applyMarks_channel (s := base) (c := d.chan) (g := d.gen) (n := d.tick) (e := e) (rest := rest) here
      (by rw [hbase]; exact hs) (by rw [hbase]; exact hq)
    have hfreed : (e.released || here.any (Mark.frees base e)) = freed := by
      rw [Bool.eq_iff_iff, Bool.or_eq_true, any_frees_iff, decide_eq_true_iff]
      rfl
    rw [← ht, hfreed, hbase] at hch
    have htq : (t.channel d.chan).queue = { e with released := freed } :: rest := by rw [hch]
    have hcounter : (t.channel d.chan).counter = (s.channel d.chan).counter := by rw [hch]
    have hrestCode : (t.channel d.chan).restCode = (s.channel d.chan).restCode := by rw [hch]
    have hdefault : (t.channel d.chan).defaultGen = (s.channel d.chan).defaultGen := by rw [hch]
    have hrun : exec (.tickDelivery d.chan d.gen) s = .next (t.advance d.chan x.length).arbitrate := by
      rw [exec_tickDelivery ha, deliver_first hd rfl rfl hx,
        takeTick_emits (s := { s with deliveries := xs ++ ys }) hs hag hi hq hspent hseg, ht]
    have hreleased : e.released = true → freed = true := fun h => decide_eq_true (.inl h)
    refine ⟨htq, fun hn => ?_, fun hn hc => ?_, fun hn hstop => ?_, fun hn hc hstop => ?_⟩
    · rw [hrun, advance_within htq hn, hcounter]
    · rw [hrun, advance_goesOn htq hn hreleased hc, hcounter]
      rfl
    · have hstopped := advance_stops htq hn hstop
      rw [hcounter, hrestCode, hdefault] at hstopped
      rw [hrun, hstopped]
      rfl
    · have hdone := advance_evaluates htq hn hc hstop
      rw [hcounter, hrestCode] at hdone
      rw [hrun, hdone]
      rfl

end Sys2Proof.Machine

/-! ## TICK_DELIVERY where no mark stands (R28, R35, R37, R39–R42, R61) -/

namespace Sys2Proof.Machine

-- The proofs are checked one after another, so that their memory is not asked for at once.
set_option Elab.async false

/-! ### One emission at an instant (R61) -/

section Emission
variable {s : State} {c : Fin 4} {d : Delivery} {e : Entry} {rest : List Entry}

theorem endAction_channel (v : State) (c : Fin 4) (a : EndAction) :
    ∃ o, (v.endAction c a).channel c = { v.channel c with output := o } := by
  rw [endAction_eq]
  split
  · exact ⟨_, State.channel_setChannel_self ..⟩
  · exact ⟨_, rfl⟩

/-- The steps after the marks count the sample and keep the instants. -/
theorem advance_counts (hq : (s.channel c).queue = e :: rest) (n : Nat) :
    ((s.advance c n).channel c).counter = (s.channel c).counter + 1 ∧
      ((s.advance c n).channel c).emittedAt = (s.channel c).emittedAt := by
  have hset (x : Channel) : State.channel { s with channels := s.channels.set c x } c = x := State.channel_setChannel_self ..
  by_cases hn : e.cursor + 1 = n
  · cases hc : e.completes (nextPasses e.repeats e.passes) with
    | false =>
      rw [advance_passes hq hn hc, hset]
      exact ⟨rfl, rfl⟩
    | true =>
      rw [advance_completes hq hn hc]
      split
      · rw [headLeaves_enterStopped, headLeaves_channel]
        exact ⟨rfl, rfl⟩
      · generalize hv : s.headLeaves c e (nextPasses e.repeats e.passes) { s.channel c with
          counter := (s.channel c).counter + 1, queue := rest } = v
        obtain ⟨o, ho⟩ := endAction_channel (v.evaluateHead c) c e.endAction
        obtain ⟨st, a, q, hev, -, -⟩ := evaluateHead_channel v c
        have hvc : v.channel c = { s.channel c with counter := (s.channel c).counter + 1, queue := rest } := by
          rw [← hv, headLeaves_channel]
        rw [ho, hev, hvc]
        exact ⟨rfl, rfl⟩
  · rw [advance_within hq hn, hset]
    exact ⟨rfl, rfl⟩

theorem takeTick_silent_channel (h : (s.channel d.chan).emitsAt d = false) :
    ((s.takeTick d).channel d.chan).counter = (s.channel d.chan).counter := by
  rw [takeTick_silent h]
  refine (congrArg Channel.counter (State.channel_setChannel_self ..)).trans ?_
  unfold Channel.letPass
  split <;> rfl

/-- A delivery counts a sample at most, and where it does the channel keeps its instant. -/
theorem takeTick_counts (s : State) (d : Delivery) : ((s.takeTick d).channel d.chan).counter = (s.channel d.chan).counter ∨
    (((s.takeTick d).channel d.chan).counter = (s.channel d.chan).counter + 1 ∧
      d.instant ∈ ((s.takeTick d).channel d.chan).emittedAt) := by
  cases hem : (s.channel d.chan).emitsAt d with
  | false => exact .inl (takeTick_silent_channel hem)
  | true =>
    obtain ⟨hs, hg, hi, hholds⟩ := Channel.playing_of_emitsAt hem
    have hquiet : (s.modChannel d.chan fun ch =>
        { ch.letPass d.gen with m0 := ch.m0.endPulse d.gen, m1 := ch.m1.endPulse d.gen }).channel d.chan = { s.channel d.chan with
          m0 := (s.channel d.chan).m0.endPulse d.gen, m1 := (s.channel d.chan).m1.endPulse d.gen } := by
      rw [State.channel_modChannel_self, letPass_eq_self hholds]
    have hnothing {u : State} (hu : u = s.modChannel d.chan fun ch =>
        { ch.letPass d.gen with m0 := ch.m0.endPulse d.gen, m1 := ch.m1.endPulse d.gen }) :
        (u.channel d.chan).counter = (s.channel d.chan).counter := by rw [hu, hquiet]
    cases hq : (s.channel d.chan).queue with
    | nil =>
      refine .inl (hnothing ?_)
      rw [State.takeTick, hem, if_pos rfl, State.emit, hquiet]
      simp only [hq]
    | cons e rest =>
      cases hx : s.segment? e.segment with
      | none =>
        refine .inl (hnothing ?_)
        rw [State.takeTick, hem, if_pos rfl, State.emit, hquiet]
        simp only [hq, State.modChannel, State.segment?_setChannel, hx]
      | some x =>
        have hspent : e.spent = 0 := by
          simp only [Channel.holds, hg, hq, decide_true, Bool.true_and, decide_eq_false_iff_not] at hholds
          omega
        have hbase : (s.sampled d x e.cursor).channel d.chan = { s.channel d.chan with
            m0 := (s.channel d.chan).m0.endPulse d.gen, m1 := (s.channel d.chan).m1.endPulse d.gen
            output := readSample s.pool.mem x.blocks e.cursor, emittedAt := s.emittedWith d } := State.channel_setChannel_self ..
        obtain ⟨l0, l1, hch⟩ := applyMarks_channel (s := s.sampled d x e.cursor) (c := d.chan) (g := d.gen) (n := d.tick) (e := e)
          (rest := rest) (x.marks.filter (fun m => m.position = e.cursor)) (by rw [hbase]; exact hs) (by rw [hbase]; exact hq)
        obtain ⟨hcount, hinst⟩ := advance_counts (congrArg Channel.queue hch) x.length
        rw [takeTick_emits hs hg hi hq hspent hx]
        refine .inr ⟨hcount.trans ?_, ?_⟩
        · rw [hch, hbase]
        · rw [hinst, hch, hbase]
          exact List.mem_cons_self

end Emission

section TwoTicks
variable {s : State} {c g h : Fin 4}

/-- The delivery of one generator leaves that of another the first of its own. -/
theorem find?_eraseP_other {ds : List Delivery} (hgh : g ≠ h) :
    (ds.eraseP (Delivery.isTo c g)).find? (Delivery.isTo c h) = ds.find? (Delivery.isTo c h) := by
  induction ds with
  | nil => rfl
  | cons x ds ih =>
    by_cases hx : Delivery.isTo c g x = true
    · have hne : Delivery.isTo c h x = false := by
        simp only [Delivery.isTo, Bool.and_eq_true, decide_eq_true_eq] at hx
        simp [Delivery.isTo, hx.1, hgh]
      rw [List.eraseP_cons_of_pos hx, List.find?_cons_of_neg (by simp [hne])]
    · rw [List.eraseP_cons_of_neg hx, List.find?_cons, List.find?_cons, ih]

theorem deliver_of_find {d : Delivery} (hd : s.deliveries.find? (Delivery.isTo c g) = some d) :
    s.deliver c g = State.takeTick { s with deliveries := s.deliveries.eraseP (Delivery.isTo c g) } d := by
  simp [State.deliver, hd]

theorem find?_isTo {xs ys : List Delivery} {d : Delivery} (hd : s.deliveries = xs ++ d :: ys) (hg : d.gen = g) (hc : d.chan = c)
    (hx : ∀ x ∈ xs, ¬(x.gen = g ∧ x.chan = c)) : s.deliveries.find? (Delivery.isTo c g) = some d := by
  rw [hd]
  refine find?_append_first (fun y hy => ?_) (by simp [Delivery.isTo, hg, hc])
  have := hx y hy
  simpa [Delivery.isTo] using this

/-- Of two deliveries of one instant to one channel, at most one counts a sample (R61). -/
theorem tickDelivery_twice {d d' : Delivery} (ha : s.alive = true) (hgh : g ≠ h)
    (hd : s.deliveries.find? (Delivery.isTo c g) = some d) (hd' : s.deliveries.find? (Delivery.isTo c h) = some d')
    (hi : d.instant = d'.instant) : ∃ t u, exec (.tickDelivery c g) s = .next t ∧ exec (.tickDelivery c h) t = .next u ∧
      ((u.channel c).counter = (s.channel c).counter ∨ (u.channel c).counter = (s.channel c).counter + 1) := by
  have hchan : d.chan = c := by
    have := List.find?_some hd
    simp only [Delivery.isTo, Bool.and_eq_true, decide_eq_true_eq] at this
    exact this.2
  have hchan' : d'.chan = c := by
    have := List.find?_some hd'
    simp only [Delivery.isTo, Bool.and_eq_true, decide_eq_true_eq] at this
    exact this.2
  have hfirst := deliver_of_find hd
  generalize hr : ({ s with deliveries := s.deliveries.eraseP (Delivery.isTo c g) } : State) = r at hfirst
  have hrc : r.channel c = s.channel c := by rw [← hr]; rfl
  have hframe := (Plays.takeTick r d).frame
  have halive : (r.takeTick d).arbitrate.alive = true := by
    rw [State.alive, State.arbitrate_powered, State.arbitrate_resetnLow, hframe, ← hr]
    exact ha
  have hdeliveries : (r.takeTick d).arbitrate.deliveries = s.deliveries.eraseP (Delivery.isTo c g) := by
    rw [State.arbitrate_deliveries, hframe, ← hr]
  have hchannel (v : State) : v.arbitrate.channel c = v.channel c := by rw [State.channel, State.channel, State.arbitrate_channels]
  refine ⟨_, _, ?_, exec_tickDelivery halive c h, ?_⟩
  · rw [exec_tickDelivery ha, hfirst]
  have hsecond := deliver_of_find (s := (r.takeTick d).arbitrate) (by rw [hdeliveries, find?_eraseP_other hgh, hd'])
  generalize hw : ({ (r.takeTick d).arbitrate with
    deliveries := (r.takeTick d).arbitrate.deliveries.eraseP (Delivery.isTo c h) } : State) = w at hsecond
  have hwc : w.channel c = (r.takeTick d).channel c := by
    rw [← hw]
    exact hchannel _
  rw [hchannel, hsecond]
  have hone := takeTick_counts r d
  have htwo := takeTick_counts w d'
  rw [hchan, hrc] at hone
  rw [hchan', hwc] at htwo
  rcases hone with hsame | ⟨hmore, hmem⟩
  · rw [hsame] at htwo
    exact htwo.imp_right And.left
  · have hagain : (w.channel d'.chan).emitsAt d' = false := by
      rw [hchan', hwc]
      exact Channel.emitsAt_again (hi ▸ hmem)
    have hsilent := takeTick_silent_channel hagain
    rw [hchan', hwc] at hsilent
    exact .inr (hsilent.trans hmore)

end TwoTicks

theorem headLeaves_setChannel (s : State) (c : Fin 4) (y : Channel) (e : Entry) (p : Nat) (x : Channel) :
    (s.setChannel c y).headLeaves c e p x = s.headLeaves c e p x := by
  refine congrArg (fun u : State => u.releaseRef e.segment) ?_
  exact congrArg (fun u : State => { u with
    notices := if e.notify = true then s.notices.produce .entryDone (.channel c) (e.segment :: u16 p) else s.notices })
    (State.setChannel_setChannel s c y x)

section LetPass
variable {ch : Channel} {g : Fin 4} {e : Entry} {rest : List Entry} {d : Delivery}

theorem holds_spent (hg : ch.activeGen = g) (hq : ch.queue = e :: rest) (h : 0 < e.spent) : ch.holds g = true := by
  simp [Channel.holds, hg, hq, h]

theorem letPass_spent (hg : ch.activeGen = g) (hq : ch.queue = e :: rest) (h : 0 < e.spent) :
    ch.letPass g = { ch with queue := { e with spent := e.spent - 1 } :: rest } := by
  rw [Channel.letPass, holds_spent hg hq h, hq]
  rfl

theorem holds_unspent (h : ∀ e ∈ ch.queue.head?, e.spent = 0 ∨ ch.activeGen ≠ g) : ch.holds g = false := by
  cases hq : ch.queue with
  | nil => simp [Channel.holds, hq]
  | cons e rest => rcases h e (by simp [hq]) with h | h <;> simp [Channel.holds, hq, h]

theorem emitsAt_quiet (h : ch.state ≠ .playing ∨ ch.activeGen ≠ d.gen ∨ d.instant ∈ ch.emittedAt) : ch.emitsAt d = false := by
  rcases h with h | h | h <;> simp [Channel.emitsAt, h]

end LetPass

/-- Settles O30: no delivery, a delivery let pass, one that only ends pulses, and an emission without marks. -/
theorem tickDelivery : Obligations.TickDelivery := by
  refine ⟨fun c g h s xs ys xs' ys' d d' ha hgh hd hg hc hx hd' hg' hc' hx' hi =>
    tickDelivery_twice ha hgh (find?_isTo hd hg hc hx) (find?_isTo hd' hg' hc' hx') hi, fun c g s ha => ?_⟩
  intro ended
  refine ⟨fun h => by rw [exec_tickDelivery ha, deliver_none h], fun xs d ys hd hg hc hx => ?_⟩
  subst hg hc
  intro ch u
  have hrun : exec (.tickDelivery d.chan d.gen) s = .next (u.takeTick d).arbitrate := by
    rw [exec_tickDelivery ha, deliver_first hd rfl rfl hx]
  refine ⟨fun e rest hag hq hspent => ?_, fun hquiet hspent => ?_, fun e rest x hs hag hi hq hspent hseg hmarks => ?_⟩
  · have hemits : (u.channel d.chan).emitsAt d = false := by
      have hholds : (u.channel d.chan).holds d.gen = true := holds_spent hag hq hspent
      simp [Channel.emitsAt, hholds]
    have hpass : (u.channel d.chan).letPass d.gen = { ch with queue := { e with spent := e.spent - 1 } :: rest } :=
      letPass_spent hag hq hspent
    rw [hrun, takeTick_silent hemits, hpass]
    rfl
  · have hemits : (u.channel d.chan).emitsAt d = false := emitsAt_quiet hquiet
    have hholds : (u.channel d.chan).holds d.gen = false := holds_unspent hspent
    rw [hrun, takeTick_silent hemits, letPass_eq_self hholds]
    rfl
  · intro passes completes played done left
    have hnone : x.marks.filter (fun m => decide (m.position = e.cursor)) = [] :=
      List.filter_eq_nil_iff.mpr fun m hm => by simpa using hmarks m hm
    let base := u.sampled d x e.cursor
    have hbase : base.channel d.chan = { played with counter := ch.counter } := State.channel_setChannel_self ..
    have hbq : (base.channel d.chan).queue = { e with released := e.released } :: rest := by rw [hbase]; exact hq
    have hstep : exec (.tickDelivery d.chan d.gen) s = .next (base.advance d.chan x.length).arbitrate := by
      rw [hrun, takeTick_emits (s := u) hs hag hi hq hspent hseg, hnone]
      rfl
    have hput (y : Channel) : ({ base with channels := base.channels.set d.chan y } : State) =
        { u with channels := s.channels.set d.chan y } := State.setChannel_setChannel u d.chan _ y
    have hleft (y : Channel) : base.headLeaves d.chan e (nextPasses e.repeats e.passes) y = left y :=
      headLeaves_setChannel u d.chan _ e _ y
    refine ⟨fun hn => ?_, fun hn hc => ?_, fun hn hstop => ?_, fun hn hc hstop => ?_⟩
    · rw [hstep, advance_within hbq hn, hput, hbase]
    · rw [hstep, advance_goesOn hbq hn id hc, hput, hbase]
      rfl
    · rw [hstep, advance_stops hbq hn hstop, hleft, hbase]
      rfl
    · rw [hstep, advance_evaluates hbq hn hc hstop, hleft, hbase]

end Sys2Proof.Machine

/-! ## The reports of the pool, the generators, the triggers and the link (R23, R67, R84, R85, R159) -/

namespace Sys2Proof.Machine

-- The proofs are checked one after another, so that their memory is not asked for at once.
set_option Elab.async false

/-! ### Requests exempt from STARTING -/

/-- A report: an exempt request that is answered from the state and changes none. -/
theorem exec_report {α : Type} {i : Instr} {tag code : Byte} {f : α} {owner : α → State → Owned} {s : State} {st : Status}
    {data : List Byte} (hx : exec i s = .next (s.receiveFrame i)) (hd : dispatch i = onRequest tag code true (.fields f) owner)
    (ht : s.takesExempt tag = true) (ho : ∀ l t, owner f (s.withFront l t) = .reply (s.withFront l t) st data) :
    exec i s = .next (s.answered tag code st data) := exec_answered_of_takesExempt hx hd ht ho rfl rfl

/-- An exempt request whose owner reads and changes the link: `l` the link it leaves. -/
theorem exec_answered_link {α : Type} {i : Instr} {tag code : Byte} {f : α} {owner : α → State → Owned} {s : State} {l : Link}
    {st : Status} {data : List Byte} (hx : exec i s = .next (s.receiveFrame i))
    (hd : dispatch i = onRequest tag code true (.fields f) owner) (ht : s.takesExempt tag = true)
    (ho : ∀ t, owner f (s.withFront s.link.tookFrame t) = .reply (s.withFront l t) st data) :
    exec i s = .next (State.arbitrate { s with
      link := l
      table :=
        { entries := s.table.entries ++ [⟨tag, code, .queued, false⟩], line := s.table.line ++ [.reply tag code st data] } }) := by
  obtain ⟨hl, ha⟩ : s.listening = true ∧ s.admits tag true = true := by simpa [State.takesExempt] using ht
  have hfree : s.table.entries.any (Pending.holds tag) = false := by
    simp only [State.admits, Bool.and_eq_true, Bool.not_eq_true'] at ha
    exact ha.1.1
  have hopen : (s.withFront s.link.tookFrame s.table).openEntry tag code =
      s.withFront s.link.tookFrame { s.table with entries := s.table.entries ++ [⟨tag, code, .awaiting, false⟩] } := rfl
  rw [hx, State.receiveFrame, receive_listening hl, hd]
  simp only [onRequest, endFrame_countGood, takeRequest, genericCheck_admits ha, hopen, ho, placeOwned, State.placeReply,
    State.withFront_table]
  rw [modifyFirst_append_new _ hfree (by simp [Pending.holds])]
  rfl

theorem allLines_eq : allLines = List.finRange 8 := by decide

/-- Settles O54: the five reports, each from its own part of the state. -/
theorem shortReports : Obligations.ShortReports := by
  intro tag s ht
  refine ⟨?_, ?_, fun b => ⟨fun h => ?_, fun k hk => ?_⟩, ?_, fun clear => ⟨fun h => ?_, fun h => ?_⟩⟩
  · refine exec_report (f := ()) rfl rfl ht fun l t => ?_
    cases hfree : s.pool.free with
    | nil | cons =>
      simp only [ownGetPool, Pool.report, Pool.largest, State.withFront_pool, hfree]
      rfl
  · refine ⟨fun g => maskOf (fun c => (s.channel c).playsOn g), fun g => maskOf (fun c => (s.channel c).pulsesOn g), fun g =>
      ⟨maskOf_lt _, maskOf_lt _, fun c => ⟨?_, ?_⟩⟩, ?_⟩
    · rw [maskOf_getLsbD]
      simp [Channel.playsOn, Channel.isRunning, and_comm]
    · rw [maskOf_getLsbD]
      simp [Channel.pulsesOn]
    · exact exec_report (f := ()) rfl rfl ht fun l t => rfl
  · refine exec_report rfl rfl ht fun l t => ?_
    simp [ownGetTrigger, fin8_eq_none h, Owned.refused]
  · refine ⟨maskOf (fun c => (s.channel c).waitsOn = some k), maskOf (fun c => (s.channel c).untilOf = some k), maskOf_lt _,
      maskOf_lt _, fun c => ⟨?_, ?_⟩, ?_⟩
    · rw [maskOf_getLsbD, decide_eq_true_iff]
    · rw [maskOf_getLsbD, decide_eq_true_iff]
    · refine exec_report rfl rfl ht fun l t => ?_
      simp only [ownGetTrigger, fin8_eq_some.mpr hk]
      rfl
  · refine exec_report (f := ()) rfl rfl ht fun l t => ?_
    rw [← allLines_eq]
    rfl
  · refine exec_report rfl rfl ht fun l t => ?_
    simp [ownGetLink, h, Owned.refused]
  · intro k
    refine exec_answered_link rfl rfl ht fun t => ?_
    rw [ownGetLink, if_neg (Nat.not_lt.mpr h)]
    have htx : u8 s.link.tx.num = [if s.link.tx = .free then 0 else 1] := by
      cases s.link.tx <;> rfl
    have hdata : s.link.tookFrame.report = u32 (Config.baud s.link.straps) ++
        [s.link.straps.setWidth 8, 0, if s.link.tx = .free then 0 else 1] ++ s.link.tookFrame.counters.list.flatMap halfBytes := by
      show u32 (Config.baud s.link.straps) ++ [s.link.straps.setWidth 8] ++ [0] ++ u8 s.link.tx.num ++ _ = _
      rw [htx]
      simp only [List.append_assoc, List.cons_append, List.nil_append]
    rw [State.withFront_link, hdata]
    by_cases hc : clear = 1
    · simp only [hc, if_true]
      rfl
    · simp only [hc, if_false]
      rfl

end Sys2Proof.Machine

/-! ## The reports of a segment, a channel, a slot, the store and the plan (R22, R54, R89, R100–R102, R176) -/

namespace Sys2Proof.Machine

-- The proofs are checked one after another, so that their memory is not asked for at once.
set_option Elab.async false

/-! ### The state that is reported (R89, R96) -/

/-- The number under which a stored state is reported. -/
def storedNum : Stored → Nat
  | .blank => 0
  | .stored => 1
  | .torn => 2

/-- What a job makes of the reported state of its slot. -/
def slotInWork (base : Nat) : Option (Work × JobState) → Nat
  | some (.save _ _ _, .active) => 3
  | some (.erase _, .active) => 4
  | some (.erase _, .suspended) => 4
  | _ => base

theorem reportedSlot_eq (n : Fin 32) (x : Slot) (jobs : List Job) : reportedSlot n x jobs =
    slotInWork (if x.operation ≠ .none then 2 else if x.content = .stored then 1 else 0)
      ((jobNaming n jobs).map (fun j => (j.work, j.state))) := by
  have hbase : storedNum x.stored = if x.operation ≠ .none then 2 else if x.content = .stored then 1 else 0 := by
    unfold Slot.stored
    cases x.operation <;> cases x.content <;> rfl
  rw [← hbase]
  unfold reportedSlot
  dsimp only
  cases jobNaming n jobs with
  | none => rfl
  | some j =>
    obtain ⟨w, o, st, r, m⟩ := j
    cases w <;> cases st <;> rfl

/-- What a job makes of the reported state of the plan area. -/
def planInWork (base : Nat) : Option (Work × JobState) → Nat
  | some (.savePlan _, .active) => 3
  | some (.clearPlan, .active) => 4
  | _ => base

theorem reportedPlan_eq (p : PlanArea) (jobs : List Job) : reportedPlan p jobs =
    planInWork (if p.operation ≠ .none then 2 else if p.record.isSome = true then 1 else 0)
      ((planJob jobs).map (fun j => (j.work, j.state))) := by
  have hbase : p.stored.num = if p.operation ≠ .none then 2 else if p.record.isSome = true then 1 else 0 := by
    unfold PlanArea.stored
    cases p.operation <;> cases p.record <;> rfl
  unfold reportedPlan
  rw [hbase]
  cases planJob jobs with
  | none => rfl
  | some j =>
    obtain ⟨w, o, st, r, m⟩ := j
    cases w <;> cases st <;> rfl

theorem effective_byte (x : Slot) :
    u8 x.effective.num = [if x.freeze = true then 2 else if x.lock = .locked then 1 else 0] := by
  unfold Slot.effective
  cases x.freeze <;> cases x.lock <;> rfl

theorem marksBytes_eq (ms : List Mark) : marksBytes ms = ms.flatMap Mark.bytes := by
  induction ms with
  | nil => rfl
  | cons m ms ih => rw [marksBytes, ih, List.flatMap_cons]

/-! ### Records that fit in the reply (R176) -/

section Fitting
variable {α : Type}

theorem fitting_eq_take (space : Nat) (rs : List (List Byte)) : fitting space rs = rs.take (fitting space rs).length := by
  induction rs generalizing space with
  | nil => rfl
  | cons r rs ih =>
    unfold fitting
    split
    · rw [List.length_cons, List.take_succ_cons, ← ih]
    · rfl

theorem fitting_length_le (space : Nat) (rs : List (List Byte)) : (fitting space rs).flatten.length ≤ space := by
  induction rs generalizing space with
  | nil => simp [fitting]
  | cons r rs ih =>
    unfold fitting
    split
    · next h =>
      have := ih (space - r.length)
      rw [List.flatten_cons, List.length_append]
      omega
    · simp

/-- The record after those that fit does not fit. -/
theorem fitting_next (space : Nat) (rs : List (List Byte)) {r : List Byte} (h : rs[(fitting space rs).length]? = some r) :
    space < (fitting space rs).flatten.length + r.length := by
  induction rs generalizing space with
  | nil => simp at h
  | cons x rs ih =>
    unfold fitting at h ⊢
    split at h
    · next hx =>
      rw [if_pos hx]
      rw [List.length_cons, List.getElem?_cons_succ] at h
      have := ih _ h
      rw [List.flatten_cons, List.length_append]
      omega
    · next hx =>
      rw [if_neg hx]
      simp only [List.length_nil, List.getElem?_cons_zero, Option.some.injEq] at h
      subst h
      simp only [List.flatten_nil, List.length_nil]
      omega

/-- Records of `lo` to `hi` bytes. -/
theorem flatten_length_bounds {lo hi : Nat} {rs : List (List Byte)} (h : ∀ r ∈ rs, lo ≤ r.length ∧ r.length ≤ hi) :
    lo * rs.length ≤ rs.flatten.length ∧ rs.flatten.length ≤ hi * rs.length := by
  induction rs with
  | nil => simp
  | cons r rs ih =>
    obtain ⟨h1, h2⟩ := h r List.mem_cons_self
    obtain ⟨h3, h4⟩ := ih fun x hx => h x (List.mem_cons_of_mem _ hx)
    rw [List.flatten_cons, List.length_append, List.length_cons, Nat.mul_succ, Nat.mul_succ]
    omega

end Fitting

/-! ### The reports of one slot and of the store -/

section Slots
variable {s : State} {n : Fin 32}

theorem slotContent_append {x : Slot} {r : Nat} (rest : List Byte) : u16 (reportedContent x r).1 ++
    (u8 (reportedContent x r).2.1.length ++ (marksBytes (reportedContent x r).2.1 ++ (u8 (reportedContent x r).2.2.1.length ++
      ((reportedContent x r).2.2.1 ++ (u32 (reportedContent x r).2.2.2 ++ rest))))) =
    (if r = 1 then u16 x.length ++ u8 x.marks.length ++ x.marks.flatMap Mark.bytes ++ u8 x.label.length ++ x.label ++
      u32 x.check.toNat else [0, 0, 0, 0, 0, 0, 0, 0]) ++ rest := by
  by_cases h : r = 1
  · simp only [reportedContent, h, if_true, marksBytes_eq, List.append_assoc]
  · simp only [reportedContent, h, if_false]
    rfl

theorem locks_append (x : Slot) (rest : List Byte) : u8 x.lock.num ++ (setClear x.freeze ++ (u8 x.effective.num ++ rest)) =
    [if x.lock = .locked then 1 else 0, if x.freeze = true then 0 else 1,
      if x.freeze = true then 2 else if x.lock = .locked then 1 else 0] ++ rest := by
  rw [effective_byte]
  cases x.lock <;> cases x.freeze <;> rfl

end Slots

/-- GET_SLOT, its data in the order of R100. -/
theorem slotReport_eq (s : State) (n : Fin 32) : s.slotReport n =
    u8 n.val ++ (u8 (reportedSlot n (s.slot n) s.jobs) ++
      ((if reportedSlot n (s.slot n) s.jobs = 1 then u16 (s.slot n).length ++ u8 (s.slot n).marks.length ++
        (s.slot n).marks.flatMap Mark.bytes ++ u8 (s.slot n).label.length ++ (s.slot n).label ++ u32 (s.slot n).check.toNat
        else [0, 0, 0, 0, 0, 0, 0, 0]) ++
      ([if (s.slot n).lock = .locked then 1 else 0, if (s.slot n).freeze = true then 0 else 1,
        if (s.slot n).freeze = true then 2 else if (s.slot n).lock = .locked then 1 else 0] ++
        (u32 (s.slot n).saveCount ++ (u32 (100000 - (s.slot n).saveCount) ++
          (jobData (jobNaming n s.jobs) ++ eraseData (jobNaming n s.jobs))))))) := by
  unfold State.slotReport
  simp only [List.append_assoc, slotContent_append, locks_append]
  rfl

theorem jobData_eq (o : Option Job) : jobData o = match o with
    | none => [255, 255, 255, 255]
    | some j => u8 j.work.num ++ u8 j.state.num ++ (match j.origin with
      | .request tag _ => [1, tag]
      | .plan => [0, 0]) := by
  cases o with
  | none => rfl
  | some j =>
    obtain ⟨w, o, st, r, m⟩ := j
    cases o <;> rfl

theorem eraseData_eq (o : Option Job) : eraseData o = match o.map (fun j => (j.work, j.suspensions, j.remaining)) with
    | some (.erase _, suspensions, remaining) => u8 suspensions ++ [if remaining = 1440000 then 0 else 1]
    | _ => [] := by
  cases o with
  | none => rfl
  | some j =>
    obtain ⟨w, o, st, r, m⟩ := j
    cases w with
    | erase n =>
      have htime : Config.eraseTime = 1440000 := by decide
      simp only [eraseData, htime]
      by_cases hr : r = 1440000 <;> simp [hr] <;> rfl
    | save | load | setLock | savePlan | clearPlan => rfl

/-! ### GET_STORE (R101, R176) -/

section Store
variable {s : State}

theorem jobRecord_eq (j : Job) : jobRecord j =
    u8 (j.work.num + 8 * j.state.num + (match j.origin with
      | .request _ _ => 64
      | .plan => 0)) ++ (match j.work.slot? with
      | some m => u8 m.val
      | none => [255]) ++ [j.origin.tag] := by
  obtain ⟨w, o, st, r, m⟩ := j
  cases o <;> cases w <;> rfl

theorem storeWide_length (s : State) : s.storeWide.length = 7 + 3 * s.jobs.length := by
  have hjobs : (s.jobs.flatMap jobRecord).length = 3 * s.jobs.length := by
    induction s.jobs with
    | nil => rfl
    | cons j js ih =>
      rw [List.flatMap_cons, List.length_append, ih, List.length_cons]
      have hone : (jobRecord j).length = 3 := rfl
      omega
  simp only [State.storeWide, List.length_append, hjobs, u8, List.length_cons, List.length_nil]

/-- A slot record has 9 to 21 bytes. -/
theorem slotRecord_length (n : Fin 32) (h : (s.slot n).label.length ≤ 12) :
    9 ≤ (s.slotRecord n).length ∧ (s.slotRecord n).length ≤ 21 := by
  have hlabel : (reportedContent (s.slot n) (reportedSlot n (s.slot n) s.jobs)).2.2.1.length ≤ 12 := by
    unfold reportedContent
    split
    · exact h
    · simp
  simp only [State.slotRecord, List.length_append, u8, u16, u32, List.length_cons, List.length_nil]
  omega

/-- The records that a GET_STORE reply carries. -/
def State.storeRecords (s : State) (n : Fin 32) : List (List Byte) :=
  fitting (Config.maxReplyData - (s.storeWide.length + 2)) ((allSlots.drop n.val).map s.slotRecord)

theorem storeReport_eq (s : State) (n : Fin 32) : s.storeReport n = s.storeWide ++ u8 n.val ++ u8 (s.storeRecords n).length ++
    ((allSlots.drop n.val).take (s.storeRecords n).length).flatMap s.slotRecord := by
  have htake : s.storeRecords n = ((allSlots.drop n.val).take (s.storeRecords n).length).map s.slotRecord := by
    rw [List.map_take]
    exact fitting_eq_take _ _
  have hflat : (s.storeRecords n).flatten = ((allSlots.drop n.val).take (s.storeRecords n).length).flatMap s.slotRecord := by
    conv_lhs => rw [htake]
    rw [List.flatMap_def]
  rw [← hflat]
  rfl

theorem storeRecords_length_le (s : State) (n : Fin 32) : (s.storeRecords n).length ≤ 32 - n.val := by
  have h : s.storeRecords n = _ := fitting_eq_take _ _
  have hlen := congrArg List.length h
  rw [List.length_take, List.length_map, List.length_drop] at hlen
  have hall : allSlots.length = 32 := List.length_finRange
  omega

/-- With a full job list and labels in their range the reply fits, carries ten records where as many are left, and none more. -/
theorem storeReport_fits (n : Fin 32) (hj : s.jobs.length ≤ 4) (hl : ∀ m, (s.slot m).label.length ≤ 12) :
    (s.storeReport n).length ≤ 246 ∧ min 10 (32 - n.val) ≤ (s.storeRecords n).length ∧
      (s.storeRecords n).length ≤ min 26 (32 - n.val) ∧
      ∀ m : Fin 32, m.val = n.val + (s.storeRecords n).length → 246 < (s.storeReport n).length + (s.slotRecord m).length := by
  have hwide := storeWide_length s
  have hspace := fitting_length_le (Config.maxReplyData - (s.storeWide.length + 2)) ((allSlots.drop n.val).map s.slotRecord)
  have hbounds : 9 * (s.storeRecords n).length ≤ (s.storeRecords n).flatten.length ∧
      (s.storeRecords n).flatten.length ≤ 21 * (s.storeRecords n).length := flatten_length_bounds fun r hr => by
    have hr' : r ∈ (allSlots.drop n.val).map s.slotRecord := by
      have htake : s.storeRecords n = _ := fitting_eq_take _ _
      rw [htake] at hr
      exact List.mem_of_mem_take hr
    obtain ⟨m, -, rfl⟩ := List.mem_map.mp hr'
    exact slotRecord_length m (hl m)
  have hmost := storeRecords_length_le s n
  have htotal : (s.storeReport n).length = s.storeWide.length + 2 + (s.storeRecords n).flatten.length := by
    show (s.storeWide ++ u8 n.val ++ u8 (s.storeRecords n).length ++ (s.storeRecords n).flatten).length = _
    simp only [List.length_append, u8, List.length_cons, List.length_nil]
  have hmax : Config.maxReplyData = 246 := rfl
  have hnext (m : Fin 32) (hm : m.val = n.val + (s.storeRecords n).length) :
      246 - (s.storeWide.length + 2) < (s.storeRecords n).flatten.length + (s.slotRecord m).length := by
    refine fitting_next (Config.maxReplyData - (s.storeWide.length + 2)) ((allSlots.drop n.val).map s.slotRecord) ?_
    show ((allSlots.drop n.val).map s.slotRecord)[(s.storeRecords n).length]? = _
    rw [List.getElem?_map, List.getElem?_drop, ← hm]
    simp [allSlots]
  have hfit : (s.storeRecords n).flatten.length ≤ 246 - (s.storeWide.length + 2) := hspace
  refine ⟨by omega, ?_, by omega, fun m hm => by have := hnext m hm; omega⟩
  by_cases hk : (s.storeRecords n).length < 32 - n.val
  · have hm : n.val + (s.storeRecords n).length < 32 := by omega
    have hn := hnext ⟨n.val + (s.storeRecords n).length, hm⟩ rfl
    have hone := (slotRecord_length ⟨n.val + (s.storeRecords n).length, hm⟩ (hl _)).2
    omega
  · omega

theorem slotRecord_eq (m : Fin 32) : s.slotRecord m =
    u8 (reportedSlot m (s.slot m) s.jobs) ++
      [if (s.slot m).freeze = true then 2 else if (s.slot m).lock = .locked then 1 else 0] ++
      (if reportedSlot m (s.slot m) s.jobs = 1 then u16 (s.slot m).length else [0, 0]) ++ u32 (s.slot m).saveCount ++
      (if reportedSlot m (s.slot m) s.jobs = 1 then u8 (s.slot m).label.length ++ (s.slot m).label else [0]) := by
  unfold State.slotRecord
  dsimp only
  rw [effective_byte]
  by_cases h : reportedSlot m (s.slot m) s.jobs = 1
  · simp only [reportedContent, h, if_true, List.append_assoc]
  · simp only [reportedContent, h, if_false, List.append_assoc]
    rfl

end Store

section Segments
variable {s : State} {f : GetSegmentFields} {g : Segment} {st : Status}

theorem ownGetSegment_index (h : 127 < f.index.toNat) : ownGetSegment f s = .refused s .range := if_pos h

theorem ownGetSegment_error (hi : f.index.toNat ≤ 127) (h : s.named f.id = .error st) : ownGetSegment f s = .refused s st := by
  simp only [ownGetSegment, Nat.not_lt.mpr hi, if_false, h]

theorem ownGetSegment_ok (hi : f.index.toNat ≤ 127) (h : s.named f.id = .ok g) : ownGetSegment f s =
    if g.blocks.length ≤ f.index.toNat then .refused s .range else .reply s .ok (g.report f.index.toNat) := by
  simp only [ownGetSegment, Nat.not_lt.mpr hi, if_false, h]

end Segments

/-- Settles O55: the five reports, each from its own part of the state. -/
theorem longReports : Obligations.LongReports := by
  intro tag s ht reported effective reportedPlan
  have hreported (n : Fin 32) : reportedSlot n (s.slot n) s.jobs = reported n := reportedSlot_eq n (s.slot n) s.jobs
  have hplan : Machine.reportedPlan s.planArea s.jobs = reportedPlan := reportedPlan_eq s.planArea s.jobs
  refine ⟨fun f => ⟨fun h => ?_, fun h0 h255 hi => ⟨fun hg => ?_, fun g hg => ⟨fun hb => ?_, fun hb => ?_⟩⟩⟩,
    fun b => ⟨fun h => ?_, fun c hc => ?_⟩, fun b => ⟨fun h => ?_, fun n hn => ?_⟩,
    fun first => ⟨fun h => ?_, fun n hn => ?_⟩, ?_⟩
  · refine exec_report rfl rfl ht fun l t => ?_
    by_cases hi : 127 < f.index.toNat
    · exact ownGetSegment_index hi
    · refine ownGetSegment_error (Nat.not_lt.mp hi) (named_range ?_)
      rcases h with h | h | h
      · exact .inl h
      · exact .inr h
      · exact absurd h hi
  · exact exec_report rfl rfl ht fun l t => ownGetSegment_error (s := s.withFront l t) hi (named_noSuchSegment h0 h255 hg)
  · refine exec_report rfl rfl ht fun l t => ?_
    exact (ownGetSegment_ok (s := s.withFront l t) hi (named_ok h0 h255 hg)).trans (if_pos hb)
  · intro shown
    refine exec_report rfl rfl ht fun l t => ?_
    refine (ownGetSegment_ok (s := s.withFront l t) hi (named_ok h0 h255 hg)).trans ((if_neg (Nat.not_le.mpr hb)).trans ?_)
    rw [← State.id_of_segment? hg, ← marksBytes_eq]
    rfl
  · refine exec_report rfl rfl ht fun l t => ?_
    simp [ownGetChannel, fin4_eq_none.mpr h, Owned.refused]
  · refine exec_report rfl rfl ht fun l t => ?_
    simp only [ownGetChannel, fin4_eq_some.mpr hc]
    show Owned.reply _ .ok (Channel.report (s.channel c)) = _
    unfold Channel.report
    cases (s.channel c).queue <;> rfl
  · refine exec_report rfl rfl ht fun l t => ?_
    simp [ownGetSlot, fin32_eq_none.mpr h, Owned.refused]
  · intro x job
    refine exec_report rfl rfl ht fun l t => ?_
    have hreport : (s.withFront l t).slotReport n = s.slotReport n := rfl
    simp only [ownGetSlot, fin32_eq_some.mpr hn, hreport, slotReport_eq, hreported, u8_of_toNat_eq hn, List.append_assoc]
    rw [jobData_eq, eraseData_eq]
    rfl
  · refine exec_report rfl rfl ht fun l t => ?_
    simp only [ownGetStore, fin32_eq_none.mpr h, Owned.refused]
  · intro wide record
    have hrecord : s.slotRecord = record := funext fun m => by
      rw [slotRecord_eq, hreported]
    have hwide : s.storeWide = wide := by
      have hcount (r : Nat) : s.countReported r = (List.finRange 32).countP (fun m => decide (reported m = r)) :=
        congrArg (fun p => allSlots.countP p) (funext fun m => by rw [hreported])
      have hjobs : s.jobs.flatMap jobRecord = s.jobs.flatMap _ := congrArg (fun f => s.jobs.flatMap f) (funext jobRecord_eq)
      rw [State.storeWide, hplan, hjobs]
      simp only [hcount]
      rfl
    have hdata : s.storeReport n = wide ++ u8 n.val ++ u8 (s.storeRecords n).length ++
        (((List.finRange 32).drop n.val).take (s.storeRecords n).length).flatMap record := by
      rw [storeReport_eq, hwide, hrecord]
      rfl
    refine ⟨(s.storeRecords n).length, ?_, storeRecords_length_le s n, fun hj hl => ?_⟩
    · refine exec_report rfl rfl ht fun l t => ?_
      simp only [ownGetStore, fin32_eq_some.mpr hn]
      rw [← hdata]
      rfl
    · have hfits := storeReport_fits n hj hl
      rw [hdata, hrecord] at hfits
      exact hfits
  · refine exec_report (f := ()) rfl rfl ht fun l t => ?_
    show Owned.reply _ .ok (u8 (Machine.reportedPlan s.planArea s.jobs) ++ planJobData (planJob s.jobs) ++
      planRecordData (Machine.reportedPlan s.planArea s.jobs) s.planArea.record) = _
    rw [hplan]
    rfl

end Sys2Proof.Machine

/-! ## The record checks of SAVE_PLAN (R97, R175) -/

namespace Sys2Proof.Machine

-- The proofs are checked one after another, so that their memory is not asked for at once.
set_option Elab.async false

/-! ### The first failing step -/

section FirstFailing
variable {fails : List PlanStep → PlanStep → Bool}

theorem firstFailing_append (before xs ys : List PlanStep) : firstFailing fails before (xs ++ ys) =
    (firstFailing fails before xs).or (firstFailing fails (before ++ xs) ys) := by
  induction xs generalizing before with
  | nil => simp [firstFailing]
  | cons x xs ih =>
    by_cases hx : fails before x = true
    · simp [firstFailing, hx]
    · simp [firstFailing, hx, ih]

theorem firstFailing_snoc_none (xs : List PlanStep) (p : PlanStep) :
    firstFailing fails [] (xs ++ [p]) = none ↔ firstFailing fails [] xs = none ∧ fails xs p = false := by
  rw [firstFailing_append, Option.or_eq_none_iff]
  cases h : fails xs p <;> simp [firstFailing, h]

/-- No step fails exactly where none fails after those before it. -/
theorem firstFailing_none {before ps : List PlanStep} : firstFailing fails before ps = none ↔
    ∀ xs p ys, ps = xs ++ p :: ys → fails (before ++ xs) p = false := by
  induction ps generalizing before with
  | nil => simp [firstFailing]
  | cons q ps ih =>
    cases hq : fails before q with
    | true =>
      simp only [firstFailing, hq, if_true, reduceCtorEq, false_iff, not_forall]
      exact ⟨[], q, ps, rfl, by simp [hq]⟩
    | false =>
      simp only [firstFailing, hq, Bool.false_eq_true, if_false, ih, List.append_assoc, List.singleton_append]
      refine ⟨fun h xs p ys he => ?_, fun h xs p ys he => h (q :: xs) p ys (by rw [he]; rfl)⟩
      cases xs with
      | nil =>
        obtain ⟨rfl, -⟩ := List.cons.inj he
        simpa using hq
      | cons x xs =>
        obtain ⟨rfl, he'⟩ := List.cons.inj he
        exact h xs p ys he'

/-- The step named is the first that fails, seen with the steps before it. -/
theorem firstFailing_some {ps : List PlanStep} {n : Nat} : firstFailing fails [] ps = some n ↔
    ∃ xs p ys, ps = xs ++ p :: ys ∧ xs.length = n ∧ firstFailing fails [] xs = none ∧ firstFailing fails [] (xs ++ [p]) ≠ none := by
  have hstep (xs : List PlanStep) (p : PlanStep) (ys : List PlanStep) (hx : firstFailing fails [] xs = none) (hp : fails xs p = true) :
      firstFailing fails [] (xs ++ p :: ys) = some xs.length := by
    rw [firstFailing_append, hx]
    simp [firstFailing, hp]
  constructor
  · intro h
    induction ps using List.reverseRecOn with
    | nil => simp [firstFailing] at h
    | append_singleton ps p ih =>
      cases hps : firstFailing fails [] ps with
      | some m =>
        have hm : m = n := by
          rw [firstFailing_append, hps] at h
          simpa using h
        obtain ⟨xs, q, ys, he, hn, hx, hq⟩ := ih (hm ▸ hps)
        exact ⟨xs, q, ys ++ [p], by simp [he], hn, hx, hq⟩
      | none =>
        have hlen : ps.length = n ∧ fails ps p = true := by
          rw [firstFailing_append, hps] at h
          cases hp : fails ps p <;> simp [firstFailing, hp] at h
          exact ⟨h, rfl⟩
        exact ⟨ps, p, [], rfl, hlen.1, hps, fun hn => by simp [((firstFailing_snoc_none ps p).mp hn).2] at hlen⟩
  · rintro ⟨xs, p, ys, rfl, rfl, hx, hp⟩
    refine hstep xs p ys hx ?_
    by_contra hn
    exact hp ((firstFailing_snoc_none xs p).mpr ⟨hx, Bool.eq_false_iff.mpr hn⟩)

end FirstFailing

/-! ### The ranges of a step (R174, R175) -/

/-- The fields of a step are in the ranges of its request. -/
def stepRanges : PlanStep → Prop
  | .load l => l.slot.toNat < 32 ∧ l.id ≠ 0 ∧ l.id ≠ 255
  | .config k => k.channel.toNat < 4 ∧ k.generator.toNat < 4
  | .rate r => r.generator.toNat < 4 ∧ 24 ≤ r.divider.toNat ∧ r.divider.toNat ≤ 16777216
  | .inputs i => 24 ≤ i.divider.toNat ∧ 1 ≤ i.confirm.toNat ∧ i.confirm.toNat ≤ 8
  | .trigger t => t.trigger.toNat < 8 ∧ t.mode.toNat < 4 ∧ t.edge.toNat < 3 ∧ t.prescale ≠ 0 ∧
      ¬((t.mode = 1 ∨ t.mode = 2) ∧ t.mask = 0)
  | .enqueue e => enqueueInRange e
  | .run m => m ≠ 0 ∧ m.toNat < 16
  | .start m => m ≠ 0 ∧ m.toNat < 16

theorem loadOf_isSome {l : LoadFields} : (loadOf l).isSome = true ↔ l.slot.toNat < 32 ∧ l.id ≠ 0 ∧ l.id ≠ 255 := by
  rw [Option.isSome_iff_exists]
  refine ⟨fun ⟨n, hn⟩ => ?_, fun ⟨hs, h0, h255⟩ => ⟨⟨l.slot.toNat, hs⟩, loadOf_eq_some.mpr ⟨h0, h255, rfl⟩⟩⟩
  obtain ⟨h0, h255, hs⟩ := loadOf_eq_some.mp hn
  exact ⟨hs ▸ n.isLt, h0, h255⟩

theorem configOf_isSome {k : ConfigFields} : (configOf k).isSome = true ↔ k.channel.toNat < 4 ∧ k.generator.toNat < 4 := by
  constructor
  · intro h
    by_contra hn
    rw [configOf_eq_none (by omega)] at h
    cases h
  · rintro ⟨hc, hg⟩
    rw [configOf_eq_some (c := ⟨_, hc⟩) (g := ⟨_, hg⟩) rfl rfl]
    rfl

theorem rateOf_isSome {r : RateFields} :
    (rateOf r).isSome = true ↔ r.generator.toNat < 4 ∧ 24 ≤ r.divider.toNat ∧ r.divider.toNat ≤ 16777216 := by
  rw [Option.isSome_iff_ne_none, ne_eq, rateOf_eq_none]
  omega

theorem inputsOk_iff {i : InputsFields} :
    inputsOk i = true ↔ 24 ≤ i.divider.toNat ∧ 1 ≤ i.confirm.toNat ∧ i.confirm.toNat ≤ 8 := decide_eq_true_iff

theorem exists_mode {b : Byte} (h : b.toNat < 4) : ∃ m : TrigMode, b.toNat = m.num := by
  generalize b.toNat = n at h
  interval_cases n
  · exact ⟨.off, rfl⟩
  · exact ⟨.change, rfl⟩
  · exact ⟨.matching, rfl⟩
  · exact ⟨.soft, rfl⟩

theorem exists_edge {b : Byte} (h : b.toNat < 3) : ∃ e : Edge, b.toNat = e.num := by
  generalize b.toNat = n at h
  interval_cases n
  · exact ⟨.rise, rfl⟩
  · exact ⟨.fall, rfl⟩
  · exact ⟨.any, rfl⟩

theorem definitionOf_isSome {t : TriggerFields} : (definitionOf t).isSome = true ↔ t.trigger.toNat < 8 ∧ t.mode.toNat < 4 ∧
    t.edge.toNat < 3 ∧ t.prescale ≠ 0 ∧ ¬((t.mode = 1 ∨ t.mode = 2) ∧ t.mask = 0) := by
  rw [Option.isSome_iff_exists]
  constructor
  · rintro ⟨⟨k, m, e⟩, h⟩
    exact (definitionOf_eq_some.mp h).1
  · intro h
    obtain ⟨m, hm⟩ := exists_mode h.2.1
    obtain ⟨e, he⟩ := exists_edge h.2.2.1
    exact ⟨(⟨_, h.1⟩, m, e), definitionOf_eq_some.mpr ⟨h, rfl, hm, he⟩⟩

theorem entryOf_isSome {e : EnqueueFields} : (entryOf e).isSome = true ↔ enqueueInRange e := by
  constructor
  · intro h
    by_contra hn
    rw [entryOf_none hn] at h
    cases h
  · rintro ⟨hc, h0, h255, hs, hu, hg, ho⟩
    obtain ⟨st, hst⟩ := Option.ne_none_iff_exists'.mp fun hn : startOf e.start = none =>
      have ⟨hne, hle⟩ := startOf_eq_none.mp hn; hs.elim hne (Nat.not_lt.mpr hle)
    obtain ⟨u, hut⟩ := Option.ne_none_iff_exists'.mp fun hn : optTrig e.untilTrig = none =>
      have ⟨hne, hle⟩ := optTrig_eq_none.mp hn; hu.elim hne (Nat.not_lt.mpr hle)
    obtain ⟨g, hgt⟩ := Option.ne_none_iff_exists'.mp fun hn : optGen e.generator = none =>
      have ⟨hne, hle⟩ := optGen_eq_none.mp hn; hg.elim hne (Nat.not_lt.mpr hle)
    have hch : fin4 e.channel = some ⟨_, hc⟩ := fin4_eq_some.mpr rfl
    simp only [entryOf, hch, hst, hut, hgt, optionsOf_eq ho, idOk_iff.mpr ⟨h0, h255⟩, if_true, Option.isSome_some]

theorem maskOk_iff {m : Byte} : maskOk m = true ↔ m ≠ 0 ∧ m.toNat < 16 := decide_eq_true_iff

theorem stepInRange_iff (p : PlanStep) : stepInRange p = true ↔ stepRanges p := by
  cases p with
  | load l => exact loadOf_isSome
  | config k => exact configOf_isSome
  | rate r => exact rateOf_isSome
  | inputs i => exact inputsOk_iff
  | trigger t => exact definitionOf_isSome
  | enqueue e => exact entryOf_isSome
  | run m => exact maskOk_iff
  | start m => exact maskOk_iff

/-! ### The checks 2 to 6 on a list of steps -/

section Checks
variable {ps : List PlanStep}

theorem check2_iff : (∀ p ∈ ps, stepRanges p) ↔ firstFailing (fun _ p => !stepInRange p) [] ps = none := by
  rw [firstFailing_none]
  constructor
  · intro h xs p ys he
    simp [(stepInRange_iff p).mpr (h p (by simp [he]))]
  · intro h p hp
    obtain ⟨xs, ys, he⟩ := List.append_of_mem hp
    have := h xs p ys he
    rw [← stepInRange_iff]
    simpa using this

theorem stepLoadId_iff {p : PlanStep} {id : Byte} : stepLoadId p = some id ↔ ∃ l, p = .load l ∧ l.id = id := by
  cases p <;> simp [stepLoadId]

theorem any_loadId {xs : List PlanStep} {id : Byte} :
    xs.any (fun p => stepLoadId p = some id) = true ↔ ∃ l, .load l ∈ xs ∧ l.id = id := by
  simp only [List.any_eq_true, decide_eq_true_eq, stepLoadId_iff]
  exact ⟨fun ⟨_, hp, l, e, hl⟩ => ⟨l, e ▸ hp, hl⟩, fun ⟨l, hp, hl⟩ => ⟨_, hp, l, rfl, hl⟩⟩

theorem check3_iff : (∀ xs l ys, ps = xs ++ .load l :: ys → ∀ l', .load l' ∈ xs → l'.id ≠ l.id) ↔
    firstFailing failsCheck3 [] ps = none := by
  rw [firstFailing_none]
  constructor
  · intro h xs p ys he
    cases p with
    | load l =>
      refine Bool.eq_false_iff.mpr fun hf => ?_
      obtain ⟨l', hl', hid⟩ := any_loadId.mp hf
      exact h xs l ys he l' hl' hid
    | config | rate | inputs | trigger | enqueue | run | start => rfl
  · intro h xs l ys he l' hl' hid
    exact Bool.eq_false_iff.mp (h xs (.load l) ys he) (any_loadId.mpr ⟨l', hl', hid⟩)

theorem check4_iff : (∀ xs e ys, ps = xs ++ .enqueue e :: ys → ∃ l, .load l ∈ xs ∧ l.id = e.segment) ↔
    firstFailing failsCheck4 [] ps = none := by
  rw [firstFailing_none]
  constructor
  · intro h xs p ys he
    cases p with
    | enqueue e => simp only [failsCheck4, List.nil_append, any_loadId.mpr (h xs e ys he), Bool.not_true]
    | load | config | rate | inputs | trigger | run | start => rfl
  · intro h xs e ys he
    have := h xs (.enqueue e) ys he
    simp only [failsCheck4, List.nil_append, Bool.not_eq_false'] at this
    exact any_loadId.mp this

theorem check5_iff : (∀ c, ps.countP (stepEnqueuesOn c) ≤ 16) ↔ firstFailing failsCheck5 [] ps = none := by
  induction ps using List.reverseRecOn with
  | nil => simp [firstFailing]
  | append_singleton ps p ih =>
    rw [firstFailing_snoc_none, ← ih]
    simp only [List.countP_append, List.countP_singleton]
    cases p with
    | enqueue e =>
      have hfail : failsCheck5 ps (.enqueue e) = false ↔ ps.countP (stepEnqueuesOn e.channel) < 16 :=
        decide_eq_false_iff_not.trans Nat.not_le
      have hself : stepEnqueuesOn e.channel (.enqueue e) = true := by simp [stepEnqueuesOn]
      rw [hfail]
      refine ⟨fun h => ⟨fun c => le_trans (Nat.le_add_right _ _) (h c), ?_⟩, fun ⟨h, hlt⟩ c => ?_⟩
      · have := h e.channel
        rw [hself, if_pos rfl] at this
        omega
      · by_cases hc : e.channel = c
        · rw [← hc, hself, if_pos rfl]
          omega
        · have hne : stepEnqueuesOn c (.enqueue e) = false := by simp [stepEnqueuesOn, hc]
          rw [hne, if_neg Bool.false_ne_true]
          exact h c
    | load | config | rate | inputs | trigger | run | start => simp [stepEnqueuesOn, failsCheck5]

theorem stepStartMask_and {p : PlanStep} {m : Byte} : stepStartMask p &&& m ≠ 0 ↔ ∃ m', p = .start m' ∧ m' &&& m ≠ 0 := by
  cases p <;> simp [stepStartMask]

theorem stepStartMask_bit {p : PlanStep} {n : Nat} :
    (stepStartMask p).getLsbD n = true ↔ ∃ m', p = .start m' ∧ m'.getLsbD n = true := by
  cases p <;> simp [stepStartMask]

theorem check6_iff : ((∀ xs m ys, ps = xs ++ .start m :: ys → ∀ m', .start m' ∈ xs → m' &&& m = 0) ∧
    (∀ xs g ys, ps = xs ++ .config g :: ys → ∀ m', .start m' ∈ xs → m'.getLsbD g.channel.toNat = false)) ↔
    firstFailing failsCheck6 [] ps = none := by
  rw [firstFailing_none]
  constructor
  · rintro ⟨hs, hc⟩ xs p ys he
    cases p with
    | start m =>
      refine Bool.eq_false_iff.mpr fun hf => ?_
      obtain ⟨p, hp, hm⟩ := List.any_eq_true.mp hf
      obtain ⟨m', rfl, hm'⟩ := stepStartMask_and.mp (of_decide_eq_true hm)
      exact hm' (hs xs m ys he m' hp)
    | config g =>
      refine Bool.eq_false_iff.mpr fun hf => ?_
      obtain ⟨p, hp, hm⟩ := List.any_eq_true.mp hf
      obtain ⟨m', rfl, hm'⟩ := stepStartMask_bit.mp hm
      exact Bool.eq_false_iff.mp (hc xs g ys he m' hp) hm'
    | load | rate | inputs | trigger | enqueue | run => rfl
  · intro h
    refine ⟨fun xs m ys he m' hm' => ?_, fun xs g ys he m' hm' => Bool.eq_false_iff.mpr fun hbit => ?_⟩
    · by_contra hne
      exact Bool.eq_false_iff.mp (h xs (.start m) ys he) (List.any_eq_true.mpr ⟨.start m', hm', decide_eq_true hne⟩)
    · exact Bool.eq_false_iff.mp (h xs (.config g) ys he) (List.any_eq_true.mpr ⟨.start m', hm', hbit⟩)

end Checks

/-! ### The whole record -/

/-- Check 1: the count and the run-on set. -/
def countsOk (f : PlanFields) : Prop := 1 ≤ f.count.toNat ∧ f.count.toNat ≤ 24 ∧ f.runOn.toNat < 8

/-- The failure of check `k` at a step, seen with the steps before it. -/
def failsCheck : Nat → List PlanStep → PlanStep → Bool
  | 2 => fun _ p => !stepInRange p
  | 3 => failsCheck3
  | 4 => failsCheck4
  | 5 => failsCheck5
  | _ => failsCheck6

/-- The first step at which check `k` fails. -/
def failureOf (f : PlanFields) (k : Nat) : Option Nat := firstFailing (failsCheck k) [] f.steps

/-- The outcomes of the checks in their order. -/
theorem planCheck_cases (f : PlanFields) :
    (¬countsOk f ∧ planCheck f = some (none, 1)) ∨
    (∃ i, countsOk f ∧ failureOf f 2 = some i ∧ planCheck f = some (some i, 2)) ∨
    (countsOk f ∧ failureOf f 2 = none ∧ f.rest ≠ [] ∧ planCheck f = some (some f.steps.length, 2)) ∨
    (∃ k i, countsOk f ∧ f.rest = [] ∧ 3 ≤ k ∧ k ≤ 6 ∧ (∀ j, 2 ≤ j → j < k → failureOf f j = none) ∧ failureOf f k = some i ∧
      planCheck f = some (some i, k)) ∨
    (countsOk f ∧ f.rest = [] ∧ (∀ k, 2 ≤ k → k ≤ 6 → failureOf f k = none) ∧ planCheck f = none) := by
  by_cases hone : countsOk f
  swap
  · have hbad : f.count.toNat = 0 ∨ Config.maxSteps < f.count.toNat ∨ 8 ≤ f.runOn.toNat := by
      simp only [countsOk, Config.maxSteps] at hone ⊢
      omega
    exact .inl ⟨hone, if_pos hbad⟩
  have hgood : ¬(f.count.toNat = 0 ∨ Config.maxSteps < f.count.toNat ∨ 8 ≤ f.runOn.toNat) := by
    simp only [countsOk, Config.maxSteps] at hone ⊢
    omega
  have e2 : firstFailing (fun _ p => !stepInRange p) [] f.steps = failureOf f 2 := rfl
  have e3 : firstFailing failsCheck3 [] f.steps = failureOf f 3 := rfl
  have e4 : firstFailing failsCheck4 [] f.steps = failureOf f 4 := rfl
  have e5 : firstFailing failsCheck5 [] f.steps = failureOf f 5 := rfl
  have e6 : firstFailing failsCheck6 [] f.steps = failureOf f 6 := rfl
  unfold planCheck
  rw [if_neg hgood, e2, e3, e4, e5, e6]
  cases h2 : failureOf f 2 with
  | some i => exact .inr (.inl ⟨i, hone, rfl, rfl⟩)
  | none =>
    by_cases hrest : f.rest = []
    swap
    · exact .inr (.inr (.inl ⟨hone, rfl, hrest, if_pos hrest⟩))
    simp only [hrest, ne_eq, not_true_eq_false, if_false]
    cases h3 : failureOf f 3 with
    | some i =>
      refine .inr (.inr (.inr (.inl ⟨3, i, hone, trivial, by omega, by omega, fun j h h' => ?_, h3, rfl⟩)))
      interval_cases j
      exact h2
    | none =>
      cases h4 : failureOf f 4 with
      | some i =>
        refine .inr (.inr (.inr (.inl ⟨4, i, hone, trivial, by omega, by omega, fun j h h' => ?_, h4, rfl⟩)))
        interval_cases j <;> assumption
      | none =>
        cases h5 : failureOf f 5 with
        | some i =>
          refine .inr (.inr (.inr (.inl ⟨5, i, hone, trivial, by omega, by omega, fun j h h' => ?_, h5, rfl⟩)))
          interval_cases j <;> assumption
        | none =>
          cases h6 : failureOf f 6 with
          | some i =>
            refine .inr (.inr (.inr (.inl ⟨6, i, hone, trivial, by omega, by omega, fun j h h' => ?_, h6, rfl⟩)))
            interval_cases j <;> assumption
          | none =>
            refine .inr (.inr (.inr (.inr ⟨hone, trivial, fun k h h' => ?_, rfl⟩)))
            interval_cases k <;> assumption

theorem planCheck_passes {f : PlanFields} :
    planCheck f = none ↔ countsOk f ∧ f.rest = [] ∧ ∀ k, 2 ≤ k → k ≤ 6 → failureOf f k = none := by
  rcases planCheck_cases f with ⟨h1, e⟩ | ⟨i, h1, h2, e⟩ | ⟨h1, h2, hr, e⟩ | ⟨k, i, h1, hr, hk, hk', hb, hi, e⟩ | ⟨h1, hr, hb, e⟩ <;>
    rw [e]
  · exact ⟨nofun, fun h => absurd h.1 h1⟩
  · exact ⟨nofun, fun ⟨_, _, h⟩ => nomatch h2.symm.trans (h 2 (by omega) (by omega))⟩
  · exact ⟨nofun, fun ⟨_, h, _⟩ => absurd h hr⟩
  · exact ⟨nofun, fun ⟨_, _, h⟩ => nomatch hi.symm.trans (h k (by omega) hk')⟩
  · exact ⟨fun _ => ⟨h1, hr, hb⟩, fun _ => rfl⟩

theorem planCheck_counts {f : PlanFields} : planCheck f = some (none, 1) ↔ ¬countsOk f := by
  rcases planCheck_cases f with ⟨h1, e⟩ | ⟨i, h1, h2, e⟩ | ⟨h1, h2, hr, e⟩ | ⟨k, i, h1, hr, hk, hk', hb, hi, e⟩ | ⟨h1, hr, hb, e⟩ <;>
    simp [e, h1]

theorem planCheck_ranges {f : PlanFields} {n : Nat} : planCheck f = some (some n, 2) ↔
    countsOk f ∧ (failureOf f 2 = some n ∨ failureOf f 2 = none ∧ f.rest ≠ [] ∧ n = f.steps.length) := by
  rcases planCheck_cases f with ⟨h1, e⟩ | ⟨i, h1, h2, e⟩ | ⟨h1, h2, hr, e⟩ | ⟨k, i, h1, hr, hk, hk', hb, hi, e⟩ | ⟨h1, hr, hb, e⟩
  · simp [e, h1]
  · simp [e, h1, h2]
  · simp [e, h1, h2, hr, eq_comm]
  · have h2 := hb 2 (by omega) (by omega)
    have hne : k ≠ 2 := by omega
    simp [e, h2, hr, hne]
  · simp [e, hb 2 (by omega) (by omega), hr]

theorem planCheck_later {f : PlanFields} {n k : Nat} (h3 : 3 ≤ k) (h6 : k ≤ 6) : planCheck f = some (some n, k) ↔
    countsOk f ∧ f.rest = [] ∧ (∀ j, 2 ≤ j → j < k → failureOf f j = none) ∧ failureOf f k = some n := by
  have hne : 2 ≠ k := by omega
  rcases planCheck_cases f with ⟨h1, e⟩ | ⟨i, h1, h2, e⟩ | ⟨h1, h2, hr, e⟩ | ⟨m, i, h1, hr, hm, hm', hb, hi, e⟩ | ⟨h1, hr, hb, e⟩
  · simp [e, h1]
  · refine iff_of_false (by simp [e, hne]) fun ⟨_, _, h, _⟩ => ?_
    cases h2.symm.trans (h 2 (by omega) (by omega))
  · exact iff_of_false (by simp [e, hne]) fun ⟨_, h, _⟩ => absurd h hr
  · rw [e]
    refine ⟨fun h => ?_, fun ⟨_, _, hbefore, hn⟩ => ?_⟩
    · cases h
      exact ⟨h1, hr, hb, hi⟩
    · rcases lt_trichotomy m k with hlt | rfl | hlt
      · cases hi.symm.trans (hbefore m (by omega) hlt)
      · rw [Option.some.inj (hi.symm.trans hn)]
      · cases hn.symm.trans (hb k (by omega) hlt)
  · refine iff_of_false (by simp [e]) fun ⟨_, _, _, hn⟩ => ?_
    cases hn.symm.trans (hb k (by omega) h6)

theorem planCheck_names {f : PlanFields} {i : Option Nat} {k : Nat} (h : planCheck f = some (i, k)) :
    1 ≤ k ∧ k ≤ 6 ∧ (i = none ↔ k = 1) := by
  rcases planCheck_cases f with ⟨h1, e⟩ | ⟨i, h1, h2, e⟩ | ⟨h1, h2, hr, e⟩ | ⟨m, i, h1, hr, hm, hm', hb, hi, e⟩ | ⟨h1, hr, hb, e⟩ <;>
    cases e.symm.trans h
  · simp
  · simp
  · simp
  · exact ⟨by omega, hm', nofun, fun h => by omega⟩

/-- Settles O43: each check is the absence of its first failing step, and the checks are taken in their order. -/
theorem planRecordIsChecked : Obligations.PlanRecordIsChecked := by
  intro f one inRange check firstFails
  have hrange : inRange = stepRanges := funext fun p => by cases p <;> rfl
  have hcheck (k : Nat) (h2 : 2 ≤ k) (h6 : k ≤ 6) (ps : List PlanStep) : check k ps ↔ firstFailing (failsCheck k) [] ps = none := by
    interval_cases k
    · show (∀ p ∈ ps, inRange p) ↔ _
      rw [hrange]
      exact check2_iff
    · exact check3_iff
    · exact check4_iff
    · refine Iff.trans (forall_congr' fun c => ?_) check5_iff
      refine iff_of_eq (congrArg (fun q => List.countP q ps ≤ 16) (funext fun p => ?_))
      cases p <;> rfl
    · exact check6_iff
  have hfirst (k n : Nat) (h2 : 2 ≤ k) (h6 : k ≤ 6) : firstFails k n ↔ failureOf f k = some n := by
    rw [failureOf, firstFailing_some]
    simp only [firstFails, hcheck k h2 h6, ne_eq]
  have hsteps (k : Nat) (h2 : 2 ≤ k) (h6 : k ≤ 6) : check k f.steps ↔ failureOf f k = none := hcheck k h2 h6 f.steps
  refine ⟨?_, planCheck_counts, fun n => ?_, fun n k h3 h6 => ?_, fun i k => planCheck_names⟩
  · rw [planCheck_passes]
    exact and_congr_right' (and_congr_right' (forall_congr' fun k => forall_congr' fun h2 => forall_congr' fun h6 =>
      (hsteps k h2 h6).symm))
  · rw [planCheck_ranges, ← hfirst 2 n (by omega) (by omega), ← hsteps 2 (by omega) (by omega)]
    exact Iff.rfl
  · rw [planCheck_later h3 h6, ← hfirst k n (by omega) h6]
    exact and_congr_right' (and_congr_right' (and_congr_left' (forall_congr' fun j => forall_congr' fun h2 => forall_congr' fun hj =>
      (hsteps j h2 (by omega)).symm)))

end Sys2Proof.Machine

/-! ## The scan and the plan run (R129–R135) -/

namespace Sys2Proof.Machine

-- The proofs are checked one after another, so that their memory is not asked for at once.
set_option Elab.async false

/-! ### Owners do not see the front and the Start-up Controller -/

/-- `s` with the link, the Request Table and the Start-up Controller of `t`. -/
def State.beside (s t : State) : State := { s with link := t.link, table := t.table, startup := t.startup }

/-- The state of an owner's answer, beside that of `t`. -/
def Owned.beside (o : Owned) (t : State) : Owned :=
  match o with
  | .reply u st data => .reply (u.beside t) st data
  | .deferred u => .deferred (u.beside t)

theorem Local.beside {f : State → State} (h : Local f) (hm : ∀ s, Moves s (f s)) (s t : State) :
    f (s.beside t) = (f s).beside t := by
  have hs : f (s.beside t) = (f s).onto (s.beside t) := h s (s.beside t)
  rw [hs, (hm s).frame]
  rfl

theorem evaluateHead_beside (s t : State) (c : Fin 4) : (s.beside t).evaluateHead c = (s.evaluateHead c).beside t :=
  (Local.evalQueue c (s.channel c).queue).beside (Moves.evalQueue c _) s t

theorem appendEntry_beside (s t : State) (c : Fin 4) (e : Entry) : (s.beside t).appendEntry c e = (s.appendEntry c e).beside t := by
  have hc : (s.beside t).channel c = s.channel c := rfl
  unfold State.appendEntry
  rw [hc]
  split
  · exact evaluateHead_beside ((s.modChannel c fun ch => { ch with queue := ch.queue ++ [e] }).takeRef e.segment) t c
  · rfl

theorem startChannel_beside (s t : State) (c : Fin 4) : State.startChannel c (s.beside t) = (State.startChannel c s).beside t :=
  evaluateHead_beside (s.modChannel c fun ch => { ch with counter := 0, emittedAt := [] }) t c

theorem forEach_beside {α : Type} {f : α → State → State} (h : ∀ x s t, f x (s.beside t) = (f x s).beside t) (xs : List α)
    (s t : State) : forEach f xs (s.beside t) = (forEach f xs s).beside t := by
  induction xs generalizing s with
  | nil => rfl
  | cons x xs ih =>
    show forEach f xs (f x (s.beside t)) = _
    rw [h, ih]
    rfl

theorem ownConfigure_beside (f : ConfigFields) (s t : State) : ownConfigure f (s.beside t) = (ownConfigure f s).beside t := by
  unfold ownConfigure
  cases configOf f with
  | none => rfl
  | some p =>
    have hc : (s.beside t).channel p.1 = s.channel p.1 := rfl
    dsimp only
    rw [hc]
    split <;> rfl

theorem ownSetRate_beside (f : RateFields) (s t : State) : ownSetRate f (s.beside t) = (ownSetRate f s).beside t := by
  unfold ownSetRate
  cases rateOf f <;> rfl

theorem ownSetInputs_beside (f : InputsFields) (s t : State) : ownSetInputs f (s.beside t) = (ownSetInputs f s).beside t := by
  unfold ownSetInputs
  split <;> rfl

theorem ownDefineTrigger_beside (f : TriggerFields) (s t : State) :
    ownDefineTrigger f (s.beside t) = (ownDefineTrigger f s).beside t := by
  unfold ownDefineTrigger
  cases definitionOf f <;> rfl

theorem ownEnqueue_beside (f : EnqueueFields) (s t : State) : ownEnqueue f (s.beside t) = (ownEnqueue f s).beside t := by
  unfold ownEnqueue
  cases entryOf f with
  | none => rfl
  | some p =>
    obtain ⟨c, e⟩ := p
    have hcheck : enqueueCheck c e (s.beside t) = enqueueCheck c e s := rfl
    dsimp only
    rw [hcheck, appendEntry_beside]
    cases enqueueCheck c e s <;> rfl

theorem ownRunRates_beside (m : Byte) (s t : State) : ownRunRates m (s.beside t) = (ownRunRates m s).beside t := by
  unfold ownRunRates
  rw [forEach_beside (fun _ _ _ => rfl)]
  split <;> rfl

theorem ownStart_beside (m : Byte) (s t : State) : ownStart m (s.beside t) = (ownStart m s).beside t := by
  have hc (c : Fin 4) : (s.beside t).channel c = s.channel c := rfl
  unfold ownStart
  simp only [forEach_beside (fun c s t => startChannel_beside s t c), hc]
  split
  · rfl
  · split <;> rfl

/-- A step of the plan that is no LOAD sees nothing of the front and of the Start-up Controller. -/
theorem ownStep_beside (p : PlanStep) (s t : State) : ownStep p (s.beside t) = (ownStep p s).beside t := by
  cases p with
  | load => rfl
  | config f => exact ownConfigure_beside f s t
  | rate f => exact ownSetRate_beside f s t
  | inputs f => exact ownSetInputs_beside f s t
  | trigger f => exact ownDefineTrigger_beside f s t
  | enqueue f => exact ownEnqueue_beside f s t
  | run m => exact ownRunRates_beside m s t
  | start m => exact ownStart_beside m s t

theorem ownStep_replies {p : PlanStep} (h : ∀ f, p ≠ .load f) (s : State) : ∃ t st data, ownStep p s = .reply t st data := by
  cases p with
  | load f => exact absurd rfl (h f)
  | config f =>
    simp only [ownStep, ownConfigure]
    split
    · exact ⟨_, _, _, rfl⟩
    · split <;> exact ⟨_, _, _, rfl⟩
  | rate f =>
    simp only [ownStep, ownSetRate]
    split <;> exact ⟨_, _, _, rfl⟩
  | inputs f =>
    simp only [ownStep, ownSetInputs]
    split <;> exact ⟨_, _, _, rfl⟩
  | trigger f =>
    simp only [ownStep, ownDefineTrigger]
    split <;> exact ⟨_, _, _, rfl⟩
  | enqueue f =>
    simp only [ownStep, ownEnqueue]
    split
    · exact ⟨_, _, _, rfl⟩
    · split <;> exact ⟨_, _, _, rfl⟩
  | run m =>
    simp only [ownStep, ownRunRates]
    split <;> exact ⟨_, _, _, rfl⟩
  | start m =>
    simp only [ownStep, ownStart]
    split
    · exact ⟨_, _, _, rfl⟩
    · split <;> exact ⟨_, _, _, rfl⟩

/-! ### A START whose course is empty -/

theorem startChannels_other {cs : List (Fin 4)} {c : Fin 4} (hc : c ∉ cs) (s : State) :
    (forEach State.startChannel cs s).channel c = s.channel c := by
  induction cs generalizing s with
  | nil => rfl
  | cons d cs ih =>
    rw [List.mem_cons, not_or] at hc
    exact (ih hc.2 _).trans ((Only.startChannel d s).other c hc.1)

theorem startAll_lookup {cs : List (Fin 4)} (hn : cs.Nodup) {c : Fin 4} (hc : c ∈ cs) (s : State) :
    (State.startAll cs s).2.lookup c = some ((forEach State.startChannel cs s).channel c).state := by
  induction cs generalizing s with
  | nil => cases hc
  | cons d cs ih =>
    obtain ⟨hd, hcs⟩ := List.nodup_cons.mp hn
    show List.lookup c ((d, ((State.startChannel d s).channel d).state) :: (State.startAll cs (State.startChannel d s)).2) =
      some ((forEach State.startChannel cs (State.startChannel d s)).channel c).state
    by_cases hcd : c = d
    · rw [hcd, List.lookup_cons_self, startChannels_other hd]
    · rw [List.lookup_cons, beq_false_of_ne hcd]
      exact ih hcs ((List.mem_cons.mp hc).resolve_left hcd) _

theorem ownStartIn_nil (m : Byte) (s : State) : ownStartIn [] m s = ownStart m s := by
  unfold ownStartIn ownStart
  simp only [State.startCourse_nil, State.startAll_fst]
  have hreached : reachedStates m (State.startAll (named m) s).2 =
      (named m).flatMap (fun c => u8 ((forEach State.startChannel (named m) s).channel c).state.num) :=
    List.flatMap_congr fun c hc => by rw [startAll_lookup (named_nodup m) hc]; rfl
  rw [hreached]

/-! ### The origin of a job -/

/-- The jobs of a request under this tag as jobs of the plan. -/
def Job.toPlan (tag : Byte) (j : Job) : Job := if j.origin = .request tag false then { j with origin := .plan } else j

section ToPlan
variable {tag : Byte}

/-- A job is the same for the selection whatever its origin. -/
theorem Job.toPlan_cases (j : Job) : ∃ o, j.toPlan tag = { j with origin := o } := by
  unfold Job.toPlan
  split
  · exact ⟨_, rfl⟩
  · exact ⟨j.origin, rfl⟩

theorem Job.toPlan_test {β : Type} {p : Job → β} (h : ∀ j o, p { j with origin := o } = p j) : p ∘ Job.toPlan tag = p := by
  funext j
  obtain ⟨o, e⟩ := j.toPlan_cases (tag := tag)
  exact (congrArg p e).trans (h j o)

theorem Job.toPlan_update {f : Job → Job} (h : ∀ j o, f { j with origin := o } = { f j with origin := o })
    (ho : ∀ j, (f j).origin = j.origin) (j : Job) : f (j.toPlan tag) = (f j).toPlan tag := by
  unfold Job.toPlan
  rw [ho]
  split
  · exact h j _
  · rfl

theorem any_toPlan {p : Job → Bool} (h : ∀ j o, p { j with origin := o } = p j) (js : List Job) :
    (js.map (Job.toPlan tag)).any p = js.any p := by rw [List.any_map, Job.toPlan_test h]

theorem modifyFirst_toPlan {p : Job → Bool} {f : Job → Job} (hp : ∀ j o, p { j with origin := o } = p j)
    (hf : ∀ j, f (j.toPlan tag) = (f j).toPlan tag) (js : List Job) :
    modifyFirst p f (js.map (Job.toPlan tag)) = (modifyFirst p f js).map (Job.toPlan tag) := by
  induction js with
  | nil => rfl
  | cons j js ih =>
    have hj : p (j.toPlan tag) = p j := congrFun (Job.toPlan_test hp) j
    simp only [List.map_cons, modifyFirst, hj, ih, hf]
    split <;> rfl

theorem picks_toPlan (js : List Job) : picks (js.map (Job.toPlan tag)) = picks js := by
  funext j
  simp only [picks, any_toPlan (p := Job.isSuspended) (fun _ _ => rfl), any_toPlan (p := Job.isQueuedLoad) (fun _ _ => rfl)]

theorem picks_origin (js : List Job) (j : Job) (o : JobOrigin) : picks js { j with origin := o } = picks js j := rfl

/-- The state with its jobs under this tag given to the plan. -/
def State.toPlan (tag : Byte) (s : State) : State := s.withJobs (s.jobs.map (Job.toPlan tag))

theorem announceFor_toPlan (s : State) (j : Job) : (s.toPlan tag).announceFor (j.toPlan tag) = (s.announceFor j).toPlan tag := by
  obtain ⟨o, e⟩ := j.toPlan_cases (tag := tag)
  rw [e]
  unfold State.announceFor
  show (if j.isQueued = true then (s.toPlan tag).announce j.work else s.toPlan tag) = _
  split
  · cases j.work <;> rfl
  · rfl

theorem select_toPlan (s : State) : (s.toPlan tag).select = s.select.toPlan tag := by
  have hactive : (s.toPlan tag).jobs.any Job.isActive = s.jobs.any Job.isActive := any_toPlan (fun _ _ => rfl) s.jobs
  have hfind : (s.toPlan tag).jobs.find? (picks s.jobs) = (s.jobs.find? (picks s.jobs)).map (Job.toPlan tag) := by
    show (s.jobs.map (Job.toPlan tag)).find? (picks s.jobs) = _
    rw [List.find?_map, Job.toPlan_test (picks_origin s.jobs)]
  have hpicks : picks (s.toPlan tag).jobs = picks s.jobs := picks_toPlan s.jobs
  have hmod : modifyFirst (picks s.jobs) Job.activated (s.toPlan tag).jobs =
      (modifyFirst (picks s.jobs) Job.activated s.jobs).map (Job.toPlan tag) :=
    modifyFirst_toPlan (picks_origin s.jobs) (Job.toPlan_update (f := Job.activated) (fun _ _ => rfl) fun _ => rfl) s.jobs
  unfold State.select
  rw [hactive, hpicks, hfind, hmod]
  cases s.jobs.any Job.isActive with
  | true => rfl
  | false =>
    cases s.jobs.find? (picks s.jobs) with
    | none => rfl
    | some j =>
      simp only [Option.map_some, announceFor_toPlan]
      rfl

theorem map_toPlan_of_none {js : List Job} (h : ∀ j ∈ js, j.origin ≠ .request tag false) : js.map (Job.toPlan tag) = js :=
  (List.map_congr_left (g := id) fun j hj => if_neg (h j hj)).trans (List.map_id js)

/-- A LOAD of a request is accepted as one of the plan, but for its job's origin. -/
theorem acceptLoad_toPlan {s : State} (h : ∀ j ∈ s.jobs, j.origin ≠ .request tag false) (n : Fin 32) (id : Byte) (k : Nat) :
    s.acceptLoad n id .plan k = (s.acceptLoad n id (.request tag false) k).toPlan tag := by
  have hnew : (newJob (.load n id) (.request tag false) k).toPlan tag = newJob (.load n id) .plan k := if_pos rfl
  have hact : (newJob (.load n id) (.request tag false) k).activated.toPlan tag = (newJob (.load n id) .plan k).activated := if_pos rfl
  have hold := map_toPlan_of_none h
  have htest (j : Job) (o : JobOrigin) : Job.suspendable n { j with origin := o } = j.suspendable n := rfl
  unfold State.acceptLoad
  split
  · have hmod := modifyFirst_toPlan (tag := tag) htest (Job.toPlan_update (f := Job.suspend) (fun _ _ => rfl) fun _ => rfl) s.jobs
    rw [hold] at hmod
    simp only [State.toPlan, State.withJobs, List.map_append, List.map_cons, List.map_nil, hact, ← hmod]
  · have hjobs : ({ s with jobs := s.jobs ++ [newJob (.load n id) (.request tag false) k] } : State).toPlan tag =
        { s with jobs := s.jobs ++ [newJob (.load n id) .plan k] } := by
      simp only [State.toPlan, State.withJobs, List.map_append, List.map_cons, List.map_nil, hold, hnew]
    unfold State.accept
    rw [← select_toPlan, hjobs]

/-- A LOAD step and a LOAD request are offered alike. -/
theorem offerLoad_toPlan {s : State} (h : ∀ j ∈ s.jobs, j.origin ≠ .request tag false) (f : LoadFields) :
    (∃ st, s.offerLoad f .plan = .error st ∧ s.offerLoad f (.request tag false) = .error st) ∨
    ∃ t, s.offerLoad f .plan = .ok (t.toPlan tag) ∧ s.offerLoad f (.request tag false) = .ok t := by
  cases hfull : s.jobsFull with
  | true => exact .inl ⟨_, offerLoad_jobsFull hfull, offerLoad_jobsFull hfull⟩
  | false =>
    cases hn : loadOf f with
    | none => exact .inl ⟨_, offerLoad_range hfull hn, offerLoad_range hfull hn⟩
    | some n =>
      cases hb : s.slotBusy n with
      | true => exact .inl ⟨_, offerLoad_busy hfull hn hb, offerLoad_busy hfull hn hb⟩
      | false =>
        cases hc : s.loadCheck n f.id with
        | some st => exact .inl ⟨st, offerLoad_check hfull hn hb hc, offerLoad_check hfull hn hb hc⟩
        | none =>
          refine .inr ⟨_, ?_, offerLoad_ok hfull hn hb hc⟩
          rw [offerLoad_ok hfull hn hb hc, acceptLoad_toPlan (by exact h)]

end ToPlan

/-! ### The decision and the run (R131–R135) -/

theorem planToRun_none {s : State} (h : s.store.plan.operation ≠ .none ∨ s.store.plan.record = none ∨
    ∃ r, s.store.plan.record = some r ∧ r.runOn.getLsbD s.startup.cause.num = false) : s.planToRun = none := by
  unfold State.planToRun PlanArea.stored Cause.inSet
  rcases h with h | h | ⟨r, hr, hb⟩
  · cases hop : s.store.plan.operation with
    | none => exact absurd hop h
    | write | clear => rfl
  · rw [h]
    cases s.store.plan.operation <;> rfl
  · rw [hr]
    cases s.store.plan.operation <;> simp [hb]

theorem planToRun_some {s : State} {r : PlanRecord} (ho : s.store.plan.operation = .none) (hr : s.store.plan.record = some r)
    (hb : r.runOn.getLsbD s.startup.cause.num = true) : s.planToRun = some r.steps := by
  simp [State.planToRun, PlanArea.stored, Cause.inSet, ho, hr, hb]

theorem failPlan_eq (s : State) (i : Nat) (st : Status) : s.failPlan i st =
    ((allChannels.filter (fun c => s.startup.planStarted.getLsbD c.val)).foldl (fun t c => t.stopNow c) s).endStarting
      (.failed i st) :=
  congrArg (fun u : State => u.endStarting (.failed i st)) (forEach_eq_foldl State.stopNow s.startup.startedChannels s)

section Steps
variable {s u t : State} {i : Nat} {ps : List PlanStep} {p : PlanStep} {st : Status} {data : List Byte}

theorem runSteps_load_error {f : LoadFields} (h : (s.modStartup fun u => { u with step := some i }).offerLoad f .plan = .error st) :
    State.runSteps (.load f :: ps) i s = (s.modStartup fun u => { u with step := some i }).failPlan i st := by
  simp only [State.runSteps, h]

theorem runSteps_load_ok {f : LoadFields} (h : (s.modStartup fun u => { u with step := some i }).offerLoad f .plan = .ok t) :
    State.runSteps (.load f :: ps) i s = t := by
  simp only [State.runSteps, h]

theorem runSteps_step (hp : ∀ f, p ≠ .load f) (h : ownStep p (s.modStartup fun u => { u with step := some i }) = .reply t st data) :
    State.runSteps (p :: ps) i s = if st = .ok then State.runSteps ps (i + 1) (t.noteStarted p) else
      (s.modStartup fun u => { u with step := some i }).failPlan i st := by
  cases p with
  | load f => exact absurd rfl (hp f)
  | config | rate | inputs | trigger | enqueue | run | start => simp only [State.runSteps, h]

theorem noteStarted_other (hp : ∀ m, p ≠ .start m) : t.noteStarted p = t := by
  cases p with
  | start m => exact absurd rfl (hp m)
  | load | config | rate | inputs | trigger | enqueue | run => rfl

end Steps

/-! ### A step as the request of its name (R132) -/

/-- `s` with STARTING over. -/
def State.readied (s : State) : State := { s with startup := { s.startup with phase := .ready } }

theorem readied_takes {s : State} {tag : Byte} (h : s.takesExempt tag = true) : s.readied.takes tag = true := by
  have hl : s.listening = true ∧ s.admits tag true = true := by simpa [State.takesExempt] using h
  have ha : s.readied.admits tag false = s.admits tag true := by
    unfold State.admits
    rw [show decide (s.readied.startup.phase = .ready) = true from rfl]
    rfl
  rw [State.takes, ha, hl.2, Bool.and_true]
  exact hl.1

/-- A step does what the request with its owner does on a part that is READY. -/
theorem exec_as_step {α : Type} {i : Instr} {tag code : Byte} {f : α} {owner : α → State → Owned} {p : PlanStep} {s : State}
    (hx : ∀ u, exec i u = .next (u.receiveFrame i)) (hd : dispatch i = onRequest tag code false (.fields f) owner)
    (ho : ∀ u, owner f u = ownStep p u) (hp : ∀ f, p ≠ .load f) (ht : s.takesExempt tag = true) :
    ∃ t st data, ownStep p s = .reply t st data ∧ exec i s.readied = .next (t.readied.answered tag code st data) := by
  obtain ⟨t, st, data, h⟩ := ownStep_replies hp s
  have hback : t = t.beside s := by
    have e : ownStep p s = (ownStep p s).beside s := ownStep_beside p s s
    rw [h] at e
    exact (Owned.reply.inj e).1
  have hfront (l : Link) (x : Table) : ownStep p (s.readied.withFront l x) = .reply (t.readied.withFront l x) st data := by
    have e : ownStep p (s.readied.withFront l x) = (ownStep p s).beside (s.readied.withFront l x) :=
      ownStep_beside p s (s.readied.withFront l x)
    rw [e, h, hback]
    rfl
  refine ⟨t, st, data, h, exec_answered_of_takes (hx _) hd (readied_takes ht) (fun l x => (ho _).trans (hfront l x)) ?_ ?_⟩
  all_goals
    rw [hback]
    rfl

theorem announceFor_beside (s r : State) (j : Job) : (s.beside r).announceFor j = (s.announceFor j).beside r := by
  unfold State.announceFor
  split
  · cases j.work <;> rfl
  · rfl

theorem select_beside (s r : State) : (s.beside r).select = s.select.beside r := by
  have hj : (s.beside r).jobs = s.jobs := rfl
  unfold State.select
  rw [hj]
  cases s.jobs.any Job.isActive with
  | true => rfl
  | false =>
    cases s.jobs.find? (picks s.jobs) with
    | none => rfl
    | some j =>
      simp only [announceFor_beside]
      rfl

theorem acceptLoad_beside (s r : State) (n : Fin 32) (id : Byte) (o : JobOrigin) (k : Nat) :
    (s.beside r).acceptLoad n id o k = (s.acceptLoad n id o k).beside r := by
  have hj : (s.beside r).jobs = s.jobs := rfl
  unfold State.acceptLoad
  rw [hj]
  split
  · rfl
  · exact select_beside { s with jobs := s.jobs ++ [newJob (.load n id) o k] } r

theorem offerLoad_beside (s r : State) (f : LoadFields) (o : JobOrigin) :
    (s.beside r).offerLoad f o = (s.offerLoad f o).map (fun t => t.beside r) := by
  cases hfull : s.jobsFull with
  | true =>
    rw [offerLoad_jobsFull hfull]
    exact offerLoad_jobsFull hfull
  | false =>
    cases hn : loadOf f with
    | none =>
      rw [offerLoad_range hfull hn]
      exact offerLoad_range hfull hn
    | some n =>
      cases hb : s.slotBusy n with
      | true =>
        rw [offerLoad_busy hfull hn hb]
        exact offerLoad_busy hfull hn hb
      | false =>
        cases hc : s.loadCheck n f.id with
        | some st =>
          rw [offerLoad_check hfull hn hb hc]
          exact offerLoad_check (s := s.beside r) hfull hn hb hc
        | none =>
          rw [offerLoad_ok hfull hn hb hc, offerLoad_ok (s := s.beside r) hfull hn hb hc]
          exact congrArg Except.ok (acceptLoad_beside
            (s.createSegment f.id .loading (s.slot n).length (s.slot n).marks 1 (.slot n)) r n f.id o _)

/-- The state of an accepted LOAD differs in the pool, the jobs and the store. -/
theorem offerLoad_keeps {s t : State} {f : LoadFields} {o : JobOrigin} (h : s.offerLoad f o = .ok t) : t = t.beside s := by
  have e : s.offerLoad f o = (s.offerLoad f o).map (fun t => t.beside s) := offerLoad_beside s s f o
  rw [h] at e
  exact Except.ok.inj e

theorem exec_load_refused {s : State} {tag : Byte} {f : LoadFields} {st : Status} (ht : s.takesExempt tag = true)
    (h : s.offerLoad f (.request tag false) = .error st) :
    exec (.load tag (.fields f)) s.readied = .next (s.readied.answered tag 0x61 st []) :=
  exec_refused_of_takes rfl rfl (readied_takes ht) fun l x => ownLoad_error (by
    have e := offerLoad_beside s (s.readied.withFront l x) f (.request tag false)
    rw [h] at e
    exact e)

theorem exec_load_accepted {s t : State} {tag : Byte} {f : LoadFields} (ht : s.takesExempt tag = true)
    (h : s.offerLoad f (.request tag false) = .ok t) :
    exec (.load tag (.fields f)) s.readied = .next (t.readied.awaited tag 0x61) := by
  have hback := offerLoad_keeps h
  refine exec_awaited_of_takes rfl rfl (readied_takes ht) (fun l x => ownLoad_ok ?_) ?_ ?_
  · have e := offerLoad_beside s (s.readied.withFront l x) f (.request tag false)
    rw [h, hback] at e
    rw [hback]
    exact e
  all_goals
    rw [hback]
    rfl

/-- Settles O50: the scan and its decision, the steps in order, and each step as the request of its name. -/
theorem scanAndPlanRun : Obligations.ScanAndPlanRun := by
  refine ⟨fun s ha => ?_, fun s r => ?_, fun s i ps => ?_, fun s tag ht => ?_⟩
  · intro count found u
    have hevent : exec .scanCompletion s = .next s.completeScan.arbitrate := congrArg Host.Outcome.next (event_alive ha _)
    refine ⟨fun hp => ?_, fun hp => ⟨fun h => ?_, fun r ho hr hb => ?_⟩⟩
    · rw [hevent, State.completeScan, if_neg hp]
    · have hnone : u.planToRun = none := planToRun_none h
      rw [hevent, State.completeScan, if_pos hp]
      show Host.Outcome.next (State.arbitrate (match u.planToRun with
        | some steps => State.runSteps steps 0 (u.modStartup (fun u => { u with phase := .plan }))
        | none => u.endStarting .notRun)) = _
      rw [hnone]
    · have hsome : u.planToRun = some r.steps := planToRun_some ho hr hb
      rw [hevent, State.completeScan, if_pos hp]
      show Host.Outcome.next (State.arbitrate (match u.planToRun with
        | some steps => State.runSteps steps 0 (u.modStartup (fun u => { u with phase := .plan }))
        | none => u.endStarting .notRun)) = _
      rw [hsome]
      rfl
  · cases r <;> rfl
  · intro u
    refine ⟨rfl, fun f st h => runSteps_load_error h, fun f t h => runSteps_load_ok h, fun p t data hl hm h => ?_,
      fun m t data h => runSteps_step (p := .start m) (fun f => nofun) h, fun p t st data hl h hst => ?_, fun st => failPlan_eq s i st,
      fun st k r hk hr => ⟨fun hp => if_neg hp, fun hp => ?_, fun hp hst => ?_⟩⟩
    · rw [runSteps_step hl h, if_pos rfl, noteStarted_other hm]
    · exact (runSteps_step hl h).trans (if_neg hst)
    · simp [State.planOutcome, State.resumePlan, hp, hk, hr]
    · simp [State.planOutcome, hp, hk, hst]
  · intro ready
    refine ⟨?_, fun f hj => ?_⟩
    · rintro p i code (⟨f, rfl, rfl, rfl⟩ | ⟨f, rfl, rfl, rfl⟩ | ⟨f, rfl, rfl, rfl⟩ | ⟨f, rfl, rfl, rfl⟩ | ⟨f, rfl, rfl, rfl⟩ |
        ⟨m, rfl, rfl, rfl⟩ | ⟨m, rfl, rfl, rfl⟩)
      iterate 6 exact exec_as_step (fun _ => rfl) rfl (fun _ => rfl) (fun _ => nofun) ht
      exact exec_as_step (fun _ => rfl) rfl (ownStartIn_nil m) (fun _ => nofun) ht
    · rcases offerLoad_toPlan hj f with ⟨st, hplan, hreq⟩ | ⟨t, hplan, hreq⟩
      · refine ⟨fun st' h => ?_, fun t h => nomatch hplan.symm.trans h⟩
        rw [← Except.error.inj (hplan.symm.trans h)]
        exact exec_load_refused ht hreq
      · refine ⟨fun st h => (nomatch hplan.symm.trans h), fun t' h => ⟨t.jobs, ?_⟩⟩
        rw [← Except.ok.inj (hplan.symm.trans h)]
        exact ⟨exec_load_accepted ht hreq, rfl⟩

end Sys2Proof.Machine

/-! ## What a slot that is no longer UNLOCKED keeps: the operations (R92, R93) -/

namespace Sys2Proof.Machine

-- The proofs are checked one after another, so that their memory is not asked for at once.
set_option Elab.async false

variable {n : Fin 32} {d : Prop} {s t u : State}

/-- No SAVE and no ERASE in the job list names the slot. -/
def State.unwritten (s : State) (n : Fin 32) : Prop := ∀ j ∈ s.jobs, j.work.writes ≠ some n

/-- The slot is LOCKED or FROZEN, and no SAVE and no ERASE names it. -/
def State.barred (s : State) (n : Fin 32) : Prop := ((s.slot n).freeze = true ∨ (s.slot n).lock = .locked) ∧ s.unwritten n

theorem effective_unlocked {x : Slot} (h : x.effective = .unlocked) : ¬(x.freeze = true ∨ x.lock = .locked) := by
  rintro (hf | hl)
  · simp [Slot.effective, hf] at h
  · unfold Slot.effective at h
    rw [hl] at h
    split at h <;> cases h

theorem barred_of_jobsFit (h : s.jobsFit = true) (hn : (s.slot n).freeze = true ∨ (s.slot n).lock = .locked) : s.barred n := by
  refine ⟨hn, fun j hj hw => ?_⟩
  simp only [State.jobsFit, Bool.and_eq_true, List.all_eq_true] at h
  have hopen := h.2 j hj
  simp only [State.writesOpen, hw, decide_eq_true_eq] at hopen
  exact effective_unlocked hopen hn

/-- What an operation leaves of a slot: its lock level, its freeze flag but for FREEZE, and, where the slot is barred, its content;
where `d` holds, its samples too. -/
structure Spares (n : Fin 32) (d : Prop) (s t : State) : Prop where
  lock : (t.slot n).lock = (s.slot n).lock
  stays : (s.slot n).freeze = true → (t.slot n).freeze = true
  frozen : (t.slot n).freeze = true → (s.slot n).freeze = true ∨ (s.slot n).lock = .locked
  keeps : s.barred n → t.unwritten n ∧
    t.slot n = { s.slot n with freeze := (t.slot n).freeze, data := (t.slot n).data } ∧ (d → (t.slot n).data = (s.slot n).data)

namespace Spares

theorem trans (h : Spares n d s t) (h' : Spares n d t u) : Spares n d s u where
  lock := h'.lock.trans h.lock
  stays := fun hf => h'.stays (h.stays hf)
  frozen := fun hf => (h'.frozen hf).elim h.frozen fun hl => .inr (h.lock ▸ hl)
  keeps := fun hb => by
    obtain ⟨hjt, hst, hdt⟩ := h.keeps hb
    obtain ⟨hju, hsu, hdu⟩ := h'.keeps ⟨hb.1.imp h.stays fun hl => h.lock.trans hl, hjt⟩
    refine ⟨hju, ?_, fun hd => (hdu hd).trans (hdt hd)⟩
    rw [hst] at hsu
    exact hsu

/-- The slot stands, and every job was there with its work. -/
theorem of_slot (hs : t.slot n = s.slot n) (hj : s.barred n → ∀ j ∈ t.jobs, j.work.writes = some n → ∃ k ∈ s.jobs, k.work = j.work) :
    Spares n d s t where
  lock := by rw [hs]
  stays := fun h => by rw [hs]; exact h
  frozen := fun h => .inl (by rw [hs] at h; exact h)
  keeps := fun hb => by
    refine ⟨fun j hm hw => ?_, by rw [hs], fun _ => by rw [hs]⟩
    obtain ⟨k, hk, e⟩ := hj hb j hm hw
    exact hb.2 k hk (e ▸ hw)

theorem of_jobs (hs : t.store = s.store) (hj : ∀ j ∈ t.jobs, ∃ k ∈ s.jobs, k.work = j.work) : Spares n d s t :=
  of_slot (by simp only [State.slot, hs]) fun _ j hm _ => hj j hm

theorem of_same (hs : t.store = s.store) (hj : t.jobs = s.jobs) : Spares n d s t :=
  of_jobs hs fun j hm => ⟨j, hj ▸ hm, rfl⟩

theorem refl (s : State) : Spares n d s s := of_same rfl rfl

theorem of_tends (h : Tends s t) : Spares n d s t := of_same (by rw [h.frame]) (by rw [h.frame])

theorem of_plays (h : Plays s t) : Spares n d s t := of_tends h.toTends

theorem of_moves (h : Moves s t) : Spares n d s t := of_same (by rw [h.frame]) (by rw [h.frame])

theorem forEach {α : Type} {f : α → State → State} (h : ∀ x s, Spares n d s (f x s)) (xs : List α) (s : State) :
    Spares n d s (Machine.forEach f xs s) := by
  induction xs generalizing s with
  | nil => exact refl s
  | cons x xs ih => exact (h x s).trans (ih (f x s))

theorem arbitrate (s : State) : Spares n d s s.arbitrate := of_same (State.arbitrate_store s) (State.arbitrate_jobs s)

theorem event {f : State → State} (h : Spares n d s (f s)) : Spares n d s (s.event f) := by
  rcases event_cases s f with ⟨-, e⟩ | ⟨-, e⟩ <;> rw [e]
  · exact h.trans (arbitrate _)
  · exact refl s

/-! ### The store -/

/-- A change of a slot's content, where no SAVE and no ERASE of a barred slot makes it. -/
theorem setSlot {m : Fin 32} {x : Slot} (hl : x.lock = (s.slot m).lock) (hf : x.freeze = (s.slot m).freeze)
    (hb : s.barred n → m ≠ n) : Spares n d s (s.setSlot m x) := by
  by_cases hm : n = m
  · subst hm
    refine ⟨by simp [hl], by simp [hf], fun h => .inl ?_, fun h => absurd rfl (hb h)⟩
    simpa [hf] using h
  · exact of_slot (State.slot_setSlot_other s hm _) fun _ j hj _ => ⟨j, hj, rfl⟩

/-- A found change of stored cells. -/
theorem changeSlot (hd : ¬d) (s : State) (m : Fin 32) (cells : List (Nat × Sample)) : Spares n d s (s.changeSlot m cells) := by
  by_cases hm : n = m
  · subst hm
    refine ⟨by simp [State.changeSlot], by simp [State.changeSlot], fun h => .inl ?_, fun h => ⟨h.2, ?_, fun h => absurd h hd⟩⟩
    · simpa [State.changeSlot] using h
    · simp [State.changeSlot]
  · exact of_slot (State.slot_setSlot_other s hm _) fun _ j hj _ => ⟨j, hj, rfl⟩

/-! ### The job list -/

theorem announce_slot {w : Work} (h : w.writes ≠ some n) (s : State) : (s.announce w).slot n = s.slot n := by
  cases w with
  | save m | erase m => exact State.slot_setSlot_other s (fun e => h (congrArg some e.symm)) _
  | load | setLock | savePlan | clearPlan => rfl

theorem select_slot (h : s.unwritten n) : s.select.slot n = s.slot n := by
  rcases select_cases s with e | ⟨j, -, hj, e⟩ <;> rw [e]
  show (s.announceFor j).slot n = s.slot n
  unfold State.announceFor
  split
  · exact announce_slot (h j (List.mem_of_find?_eq_some hj)) s
  · rfl

theorem select_jobs (s : State) {j : Job} (hj : j ∈ s.select.jobs) : ∃ k ∈ s.jobs, k.work = j.work :=
  exists_job_of_work (select_frame s).2.1 hj

theorem select (s : State) : Spares n d s s.select := by
  have hs := (select_frame s).2.2 n
  refine ⟨by rw [hs], fun h => by rw [hs]; exact h, fun h => .inl (by rw [hs] at h; exact h), fun hb => ?_⟩
  have h : Spares n d s s.select := of_slot (select_slot hb.2) fun _ j hj _ => select_jobs s hj
  exact h.keeps hb

/-- A job goes to the tail that does not write a barred slot. -/
theorem append {j : Job} (h : s.barred n → j.work.writes ≠ some n) : Spares n d s { s with jobs := s.jobs ++ [j] } :=
  of_slot rfl fun hb k hk hw => by
    rcases List.mem_append.mp hk with hk | hk
    · exact ⟨k, hk, rfl⟩
    · rw [List.mem_singleton.mp hk] at hw
      exact absurd hw (h hb)

theorem accept {w : Work} (h : s.barred n → w.writes ≠ some n) (o : JobOrigin) (k : Nat) : Spares n d s (s.accept w o k) :=
  (append (j := newJob w o k) h).trans (select _)

theorem acceptLoad (s : State) (m : Fin 32) (id : Byte) (o : JobOrigin) (k : Nat) : Spares n d s (s.acceptLoad m id o k) := by
  unfold State.acceptLoad
  split
  · have hsuspend : Spares n d s { s with jobs := modifyFirst (Job.suspendable m) Job.suspend s.jobs } :=
      of_jobs rfl fun j hj => exists_job_of_work (modifyFirst_map (·.work) (f := Job.suspend) (fun _ => rfl) s.jobs) hj
    exact hsuspend.trans (append (j := (newJob (.load m id) o k).activated) fun _ => by simp [newJob, Job.activated, Work.writes])
  · exact accept (fun _ => by simp [Work.writes]) o k

/-- A slot that passes the checks of SAVE and ERASE is UNLOCKED. -/
theorem ne_of_writable {m : Fin 32} (h : s.writable m = none) (hb : s.barred n) : m ≠ n := fun e =>
  effective_unlocked (writable_none h).2 (e ▸ hb.1)

theorem eraseJob (s : State) (p : Job → Bool) : Spares n d s { s with jobs := s.jobs.eraseP p } :=
  of_jobs rfl fun j hj => ⟨j, List.eraseP_sublist.subset hj, rfl⟩

theorem handReply (s : State) (o : JobOrigin) (code : Byte) (st : Status) (data : List Byte) :
    Spares n d s (s.handReply o code st data) := by
  match o with
  | .request tag false => exact of_same rfl rfl
  | .request tag true => exact of_same rfl rfl
  | .plan => exact refl s

theorem finishJob (s : State) (j : Job) (st : Status) (data : List Byte) : Spares n d s (s.finishJob j st data) :=
  (eraseJob s Job.isActive).trans ((handReply _ _ _ st data).trans (select _))

/-- The ACTIVE job writes no barred slot. -/
theorem ne_of_active {j : Job} {m : Fin 32} (hj : s.activeJob = some j) (hw : j.work.writes = some m) (hb : s.barred n) : m ≠ n :=
  fun e => hb.2 j (activeJob_mem hj) (e ▸ hw)

theorem completeSave (s : State) : Spares n d s s.completeSave := by
  unfold State.completeSave
  split
  · next j hj =>
    split
    · next m id label hw =>
      split
      · next g _ =>
        have hset := setSlot (d := d) (x := (s.slot m).saved g label (segSamples s.pool.mem g)) rfl rfl
          (ne_of_active (n := n) hj (by rw [hw]; rfl))
        exact hset.trans ((of_moves (Moves.releaseRef _ id)).trans (finishJob ..))
      · exact refl s
    · exact refl s
  · exact refl s

theorem completeErase (s : State) : Spares n d s s.completeErase := by
  unfold State.completeErase
  split
  · next j hj =>
    split
    · next m hw => 
      exact (setSlot (x := (s.slot m).erased) rfl rfl (ne_of_active hj (by rw [hw]; rfl))).trans (finishJob ..)
    · exact refl s
  · exact refl s

theorem setPlan (s : State) (p : PlanArea) : Spares n d s (s.setPlan p) := of_slot rfl fun _ j hj _ => ⟨j, hj, rfl⟩

theorem completeSavePlan (s : State) : Spares n d s s.completeSavePlan := by
  unfold State.completeSavePlan
  split
  · split
    · exact (setPlan ..).trans (finishJob ..)
    · exact refl s
  · exact refl s

theorem completeClearPlan (s : State) : Spares n d s s.completeClearPlan := by
  unfold State.completeClearPlan
  split
  · split
    · exact (setPlan ..).trans (finishJob ..)
    · exact refl s
  · exact refl s

/-! ### The load transfer, the plan run and the LOAD's completion -/

theorem transferBlock (hd : ¬d) (s : State) (cells : List (Nat × Sample)) : Spares n d s (s.transferBlock cells) := by
  unfold State.transferBlock
  split
  · split
    · split
      · split
        · exact (changeSlot hd s _ cells).trans (of_same rfl rfl)
        · exact refl s
      · exact refl s
    · exact refl s
  · exact refl s

theorem transferRest (hd : ¬d) (s : State) (m : Fin 32) (g : Segment) (cells : List (Nat × Sample)) :
    Spares n d s (s.transferRest m g cells) := (changeSlot hd s m cells).trans (of_same rfl rfl)

theorem modStartup (s : State) (f : Startup → Startup) : Spares n d s (s.modStartup f) := of_same rfl rfl

theorem endStarting (s : State) (r : PlanResult) : Spares n d s (s.endStarting r) := of_same rfl rfl

theorem failPlan (s : State) (i : Nat) (st : Status) : Spares n d s (s.failPlan i st) :=
  (of_moves (stopPlanChannels_moves s)).trans (endStarting ..)

theorem offerLoad {f : LoadFields} {o : JobOrigin} (h : s.offerLoad f o = .ok t) : Spares n d s t := by
  unfold State.offerLoad at h
  split at h
  · cases h
  · split at h
    · cases h
    · split at h
      · cases h
      · split at h
        · cases h
        · cases h
          refine Spares.trans (t := s.createSegment f.id .loading _ _ 1 _) ?_ (acceptLoad ..)
          exact of_same rfl rfl

end Spares

end Sys2Proof.Machine

/-! ## What a slot that is no longer UNLOCKED keeps: the plan run, the course of a START and the owners -/

namespace Sys2Proof.Machine

-- The proofs are checked one after another, so that their memory is not asked for at once.
set_option Elab.async false

variable {n : Fin 32} {d : Prop} {s t u : State}

namespace Spares

/-! ### The players, the generators and the Trigger Unit -/

theorem makeTick (s : State) (m : TickMade) : Spares n d s (s.makeTick m) := by
  unfold State.makeTick
  simp only
  split
  · exact of_same rfl rfl
  · exact refl s

theorem deliver (s : State) (c g : Fin 4) : Spares n d s (s.deliver c g) := by
  unfold State.deliver
  split
  · have htaken (ds : List Delivery) : Spares n d s { s with deliveries := ds } := of_same rfl rfl
    exact (htaken _).trans (of_plays (Plays.takeTick _ _))
  · exact refl s

theorem setTrigger (s : State) (k : Fin 8) (x : Trigger) : Spares n d s (s.setTrigger k x) := of_same rfl rfl

theorem examineTrigger (r f v : Byte) (k : Fin 8) (s : State) : Spares n d s (State.examineTrigger r f v k s) := by
  unfold State.examineTrigger
  simp only
  split
  · exact (setTrigger s k _).trans (of_plays (Plays.fireTrigger k none _))
  · exact setTrigger s k _

theorem takeSample (s : State) (levels : Byte) (order : List (Fin 8)) : Spares n d s (s.takeSample levels order) := by
  unfold State.takeSample
  split
  · refine Spares.trans (t := { s with trig := s.trig.confirmAll levels }) (of_same rfl rfl) ?_
    exact forEach (examineTrigger _ _ _) _ _
  · exact of_same rfl rfl

/-! ### Owners beside the Store Controller -/

theorem ownCreate (f : CreateFields) (s : State) : Spares n d s (ownCreate f s).state := by
  unfold Machine.ownCreate
  split
  · exact refl s
  · split
    · exact refl s
    · exact of_same rfl rfl

theorem ownWrite (f : WriteFields) (s : State) : Spares n d s (ownWrite f s).state := by
  unfold Machine.ownWrite
  split
  · exact refl s
  · split
    · exact refl s
    · split
      · exact refl s
      · split
        · exact refl s
        · exact of_same rfl rfl

theorem ownSeal (id : Byte) (s : State) : Spares n d s (ownSeal id s).state := by
  unfold Machine.ownSeal
  split
  · exact refl s
  · split
    · exact refl s
    · split
      · exact refl s
      · exact of_moves ((Moves.modSegment s id _).trans (Moves.reportReady _ id))

theorem retire (s : State) (g : Segment) : Spares n d s (s.retire g) := by
  unfold State.retire
  split
  · exact (of_moves (Moves.modSegment s g.id _)).trans (of_plays (Plays.reportFailed _ g.id))
  · exact of_moves (Moves.modSegment s g.id _)

theorem ownDelete (id : Byte) (s : State) : Spares n d s (ownDelete id s).state := by
  unfold Machine.ownDelete
  split
  · exact refl s
  · next g _ =>
    split
    · exact refl s
    · split
      · exact refl s
      · split
        · exact of_moves (Moves.freeSegment s g false)
        · exact retire s g

theorem ownConfigure (f : ConfigFields) (s : State) : Spares n d s (ownConfigure f s).state := by
  unfold Machine.ownConfigure
  split
  · exact refl s
  · split
    · exact refl s
    · exact of_same rfl rfl

theorem appendEntry (s : State) (c : Fin 4) (e : Entry) : Spares n d s (s.appendEntry c e) := by
  have happend : Spares n d s ((s.modChannel c fun ch => { ch with queue := ch.queue ++ [e] }).takeRef e.segment) := of_same rfl rfl
  unfold State.appendEntry
  simp only
  split
  · exact happend.trans (of_moves (Moves.evaluateHead _ c))
  · exact happend

theorem ownEnqueue (f : EnqueueFields) (s : State) : Spares n d s (ownEnqueue f s).state := by
  unfold Machine.ownEnqueue
  split
  · exact refl s
  · split
    · exact refl s
    · exact appendEntry s _ _

theorem startChannel (c : Fin 4) (s : State) : Spares n d s (State.startChannel c s) := of_moves (Moves.startChannel c s)

theorem ownStart (m : Byte) (s : State) : Spares n d s (ownStart m s).state := by
  unfold Machine.ownStart
  split
  · exact refl s
  · split
    · exact refl s
    · exact forEach startChannel _ s

theorem ownStopImmediate (f : StopFields) (s : State) : Spares n d s (ownStopImmediate f s).state := by
  unfold Machine.ownStopImmediate
  split
  · exact refl s
  · exact forEach (fun c s => of_plays (Plays.stopNow c s)) _ s

theorem ownStopAtPassEnd (m : Byte) (s : State) : Spares n d s (ownStopAtPassEnd m s).state := by
  unfold Machine.ownStopAtPassEnd
  split
  · exact refl s
  · exact forEach (fun c s => of_plays (Plays.stopAtPassEnd c s)) _ s

theorem ownRelease (c : Byte) (s : State) : Spares n d s (ownRelease c s).state := by
  unfold Machine.ownRelease
  split
  · exact refl s
  · split
    · exact refl s
    · split
      · exact of_same rfl rfl
      · exact refl s

theorem ownFlush (c : Byte) (s : State) : Spares n d s (ownFlush c s).state := by
  unfold Machine.ownFlush
  split
  · exact refl s
  · exact of_plays (Plays.flush s _)

theorem modGenerator (s : State) (g : Fin 4) (f : Generator → Generator) : Spares n d s (s.modGenerator g f) := of_same rfl rfl

theorem ownSetRate (f : RateFields) (s : State) : Spares n d s (ownSetRate f s).state := by
  unfold Machine.ownSetRate
  split
  · exact refl s
  · exact modGenerator ..

theorem ownRunRates (m : Byte) (s : State) : Spares n d s (ownRunRates m s).state := by
  unfold Machine.ownRunRates
  split
  · exact refl s
  · exact forEach (f := State.runGenerator) (fun g s => modGenerator s g _) _ s

theorem ownHaltRates (m : Byte) (s : State) : Spares n d s (ownHaltRates m s).state := by
  unfold Machine.ownHaltRates
  split
  · exact refl s
  · exact forEach (f := State.haltGenerator) (fun g s => modGenerator s g _) _ s

theorem ownSetInputs (f : InputsFields) (s : State) : Spares n d s (ownSetInputs f s).state := by
  unfold Machine.ownSetInputs
  split
  · exact refl s
  · exact of_same rfl rfl

theorem ownDefineTrigger (f : TriggerFields) (s : State) : Spares n d s (ownDefineTrigger f s).state := by
  unfold Machine.ownDefineTrigger
  split
  · exact refl s
  · exact setTrigger ..

theorem ownFire (k : Byte) (s : State) : Spares n d s (ownFire k s).state := by
  unfold Machine.ownFire
  split
  · exact refl s
  · split
    · exact refl s
    · exact of_plays (Plays.fireTrigger _ none s)

theorem ownAbortPlan (v : Unit) (s : State) : Spares n d s (ownAbortPlan v s).state := by
  unfold Machine.ownAbortPlan
  split
  · exact (of_moves (stopPlanChannels_moves s)).trans (endStarting ..)
  · exact refl s
  · exact refl s

theorem ownSetNotices (f : NoticesFields) (s : State) : Spares n d s (ownSetNotices f s).state := by
  unfold Machine.ownSetNotices
  split
  · exact refl s
  · exact of_same rfl rfl

theorem ownGetLink (c : Byte) (s : State) : Spares n d s (ownGetLink c s).state := by
  unfold Machine.ownGetLink
  split
  · exact refl s
  · show Spares n d s (if c = 1 then s.count (fun _ => .zero) else s)
    split
    · exact of_same rfl rfl
    · exact refl s

/-- An owner that changes no state. -/
theorem of_state_eq {o : Owned} (h : o.state = s) : Spares n d s o.state := by
  rw [h]
  exact refl s

/-! ### Owners of the Store Controller -/

theorem ownSave (tag : Byte) (f : SaveFields) (s : State) : Spares n d s (ownSave tag f s).state := by
  unfold Machine.ownSave
  split
  · exact refl s
  · split
    · exact refl s
    · next m _ =>
      split
      · exact refl s
      · next hw =>
        split
        · exact refl s
        · have href : Spares n d s (s.takeRef f.id) := of_same rfl rfl
          exact href.trans (accept (s := s.takeRef f.id) (w := .save m f.id f.label) (fun hb e => ne_of_writable (s := s) hw hb (Option.some.inj e)) _ _)

theorem ownLoad (tag : Byte) (f : LoadFields) (s : State) : Spares n d s (ownLoad tag f s).state := by
  unfold Machine.ownLoad
  split
  · exact refl s
  · next h => exact offerLoad h

theorem ownErase (tag slot : Byte) (s : State) : Spares n d s (ownErase tag slot s).state := by
  unfold Machine.ownErase
  split
  · exact refl s
  · split
    · exact refl s
    · split
      · exact refl s
      · next hw => exact accept (w := .erase _) (fun hb e => ne_of_writable hw hb (Option.some.inj e)) _ _

theorem ownSetLock (tag : Byte) (f : LockFields) (s : State) : Spares n d s (ownSetLock tag f s).state := by
  unfold Machine.ownSetLock
  split
  · exact refl s
  · split
    · split
      · exact refl s
      · split
        · exact refl s
        · exact accept (w := .setLock _ _) (fun _ => nofun) _ _
    · exact refl s

theorem ownSavePlan (tag : Byte) (f : PlanFields) (s : State) : Spares n d s (ownSavePlan tag f s).state := by
  unfold Machine.ownSavePlan
  split
  · exact refl s
  · split
    · exact refl s
    · split
      · exact refl s
      · exact accept (w := .savePlan _) (fun _ => nofun) _ _

theorem ownClearPlan (tag : Byte) (v : Unit) (s : State) : Spares n d s (ownClearPlan tag v s).state := by
  unfold Machine.ownClearPlan
  split
  · exact refl s
  · split
    · exact refl s
    · exact accept (w := .clearPlan) (fun _ => nofun) _ _

/-- FREEZE sets the flag of a LOCKED slot alone (R93). -/
theorem ownFreeze (slot : Byte) (s : State) : Spares n d s (ownFreeze slot s).state := by
  unfold Machine.ownFreeze
  split
  · exact refl s
  · next m _ =>
    split
    · exact refl s
    · split
      · exact refl s
      · next hl =>
        have hlocked : (s.slot m).lock = .locked := by
          cases h : (s.slot m).lock with
          | unlocked => exact absurd h hl
          | locked => rfl
        by_cases hm : n = m
        · subst hm
          exact ⟨by simp [Owned.state], by simp [Owned.state], fun _ => .inr hlocked, fun h => ⟨h.2, by simp [Owned.state], by simp [Owned.state]⟩⟩
        · exact of_slot (State.slot_setSlot_other s hm _) fun _ j hj _ => ⟨j, hj, rfl⟩

theorem takeOut (s : State) (tag : Byte) (j : Job) : Spares n d s (s.takeOut tag j) := by
  have heffect : Spares n d s (s.cancelEffect j.work) := by
    cases j.work with
    | save m id label => exact of_moves (Moves.releaseRef s id)
    | load m id => exact of_moves (Moves.failLoading s id)
    | erase | setLock | savePlan | clearPlan => exact refl s
  unfold State.takeOut
  simp only
  split
  · exact heffect.trans ((eraseJob _ _).trans (select _))
  · exact heffect.trans (eraseJob _ _)

theorem ownCancel (tag : Byte) (s : State) : Spares n d s (ownCancel tag s).state := by
  unfold Machine.ownCancel
  split
  · exact refl s
  · split
    · exact refl s
    · exact (takeOut s _ _).trans (of_same rfl rfl)

/-! ### The plan run and the LOAD's completion -/

theorem ownStep (p : PlanStep) (s : State) : Spares n d s (ownStep p s).state := by
  cases p with
  | load f => exact refl s
  | config f => exact ownConfigure f s
  | rate f => exact ownSetRate f s
  | inputs f => exact ownSetInputs f s
  | trigger f => exact ownDefineTrigger f s
  | enqueue f => exact ownEnqueue f s
  | run m => exact ownRunRates m s
  | start m => exact ownStart m s

theorem noteStarted (s : State) (p : PlanStep) : Spares n d s (s.noteStarted p) := by
  unfold State.noteStarted
  split
  · exact modStartup ..
  · exact refl s

theorem runSteps (ps : List PlanStep) (i : Nat) (s : State) : Spares n d s (State.runSteps ps i s) := by
  induction ps generalizing i s with
  | nil => exact endStarting ..
  | cons p ps ih =>
    have hstep : Spares n d s (s.modStartup fun u => { u with step := some i }) := modStartup ..
    by_cases hp : ∃ f, p = .load f
    · obtain ⟨f, rfl⟩ := hp
      cases h : (s.modStartup fun u => { u with step := some i }).offerLoad f .plan with
      | error st =>
        rw [runSteps_load_error h]
        exact hstep.trans (failPlan ..)
      | ok t =>
        rw [runSteps_load_ok h]
        exact hstep.trans (offerLoad h)
    · have hp' : ∀ f, p ≠ .load f := fun f e => hp ⟨f, e⟩
      obtain ⟨t, st, data, h⟩ := ownStep_replies hp' (s.modStartup fun u => { u with step := some i })
      have ht := ownStep (n := n) (d := d) p (s.modStartup fun u => { u with step := some i })
      rw [h] at ht
      rw [runSteps_step hp' h]
      split
      · exact hstep.trans (Spares.trans ht ((noteStarted ..).trans (ih ..)))
      · exact hstep.trans (failPlan ..)

theorem completeScan (s : State) : Spares n d s s.completeScan := by
  unfold State.completeScan
  split
  · simp only
    split
    · exact (modStartup ..).trans ((modStartup ..).trans (runSteps ..))
    · exact (modStartup ..).trans (endStarting ..)
  · exact refl s

theorem planOutcome (s : State) (st : Status) : Spares n d s (s.planOutcome st) := by
  unfold State.planOutcome State.resumePlan
  split
  · split
    · split
      · exact runSteps ..
      · exact refl s
    · exact failPlan ..
  · exact refl s

theorem handLoad (s : State) (o : JobOrigin) (st : Status) (data : List Byte) : Spares n d s (s.handLoad o st data) := by
  cases o with
  | request tag orphaned => exact handReply ..
  | plan => exact planOutcome ..

theorem finishLoad (s : State) (j : Job) (st : Status) (data : List Byte) : Spares n d s (s.finishLoad j st data) :=
  (eraseJob s Job.isActive).trans ((handLoad _ _ st data).trans (select _))

theorem completeLoad (hd : ¬d) (s : State) (cells : List (Nat × Sample)) : Spares n d s (s.completeLoad cells) := by
  unfold State.completeLoad
  split
  · split
    · split
      · next g _ =>
        have hrest := transferRest (n := n) hd s
        unfold State.judgeLoad
        simp only
        split
        · exact (hrest ..).trans ((of_moves (Moves.loadSucceeds _ g.id)).trans (finishLoad ..))
        · exact (hrest ..).trans ((of_moves (Moves.failLoading _ g.id)).trans (finishLoad ..))
      · exact refl s
    · exact refl s
  · exact refl s

/-! ### The course of a START -/

theorem betweenStarts {p : StartStep} (hp : ∀ cells, p = .loadCompletion cells → ¬d) (s : State) :
    Spares n d s (betweenStarts p s) := by
  cases p with
  | channel => exact refl s
  | tick m => exact event (f := fun s => s.makeTick m) (makeTick s m)
  | tickDelivery c g => exact event (f := fun s => s.deliver c g) (deliver s c g)
  | sample levels order => exact event (f := fun s => s.takeSample levels order) (takeSample s levels order)
  | loadCompletion cells => exact event (f := fun s => s.completeLoad cells) (completeLoad (hp cells rfl) s cells)

theorem startCourse {course : List StartStep} (hc : ∀ cells, .loadCompletion cells ∈ course → ¬d) (left : List (Fin 4)) (s : State) :
    Spares n d s (State.startCourse course left s).1 := by
  induction course generalizing left s with
  | nil =>
    rw [State.startCourse_nil, State.startAll_fst]
    exact forEach startChannel left s
  | cons p course ih =>
    have hrest : ∀ cells, .loadCompletion cells ∈ course → ¬d := fun cells hm => hc cells (List.mem_cons_of_mem _ hm)
    by_cases hne : left = []
    · subst hne
      rw [State.startCourse_over]
      exact refl s
    by_cases hp : ∃ c, p = .channel c
    · obtain ⟨c, rfl⟩ := hp
      by_cases hm : c ∈ left
      · rw [State.startCourse_start hm]
        exact (startChannel c s).trans (ih hrest _ _)
      · rw [State.startCourse_skip hm]
        exact ih hrest left s
    · rw [State.startCourse_between (fun c e => hp ⟨c, e⟩) course hne]
      exact (betweenStarts (fun cells e => hc cells (by simp [e])) s).trans (ih hrest left _)

theorem ownStartIn {course : List StartStep} (hc : ∀ cells, .loadCompletion cells ∈ course → ¬d) (m : Byte) (s : State) :
    Spares n d s (ownStartIn course m s).state := by
  unfold Machine.ownStartIn
  split
  · exact refl s
  · split
    · exact refl s
    · exact startCourse hc _ s

end Spares

end Sys2Proof.Machine

/-! ## What a slot that is no longer UNLOCKED keeps: every command (R92, R93) -/

namespace Sys2Proof.Machine

-- The proofs are checked one after another, so that their memory is not asked for at once.
set_option Elab.async false

variable {n : Fin 32} {d : Prop} {s t u : State}

/-! ### Frames as they are read carry no course -/

/-- The course of a START command. -/
def courseOf : Instr → List StartStep
  | .start _ run => run.course
  | _ => []

theorem readStop_course (tag : Byte) (bs : List Byte) : courseOf (readStop tag bs) = [] := by
  unfold readStop
  split
  · split <;> rfl
  · rfl

theorem decodeCode_course {tag code : Byte} {bs : List Byte} {i : Instr} (h : decodeCode tag code bs = some i) : courseOf i = [] := by
  unfold decodeCode at h
  split at h <;> cases h
  case h_10 => exact readStop_course ..
  all_goals rfl

theorem decodeFrame_course {content : List Byte} {i : Instr} (h : decodeFrame content = some i) : courseOf i = [] := by
  unfold decodeFrame at h
  split at h
  · next kind tag body =>
    split at h
    · cases h
      unfold decodeRequest
      split
      · rfl
      · split
        · next h => exact decodeCode_course h
        · rfl
    · split at h <;> cases h <;> rfl
  · cases h

namespace Spares

/-! ### The dispatch of frames -/

theorem count (s : State) (f : Counters → Counters) : Spares n d s (s.count f) := of_same rfl rfl

theorem linkFault (s : State) (k : Nat) (c : Half) : Spares n d s (s.linkFault k c) := of_same rfl rfl

theorem setReceiver (s : State) (r : Receiver) (g : Timer) : Spares n d s (s.setReceiver r g) := of_same rfl rfl

theorem endFrame (s : State) : Spares n d s s.endFrame := setReceiver ..

theorem refuse (s : State) (tag code : Byte) (st : Status) : Spares n d s (s.refuse tag code st) := by
  rcases refuse_cases s tag code st with ⟨-, e⟩ | ⟨-, e⟩ <;> rw [e] <;> exact of_same rfl rfl

theorem acknowledge (s : State) (v : Byte) : Spares n d s (s.acknowledge v) := by
  unfold State.acknowledge
  split
  · exact of_same rfl rfl
  · exact count ..

/-- A request frame at its dispatch: refused, or taken by an owner. -/
theorem onRequest {α : Type} {tag code : Byte} {exempt : Bool} {body : Body α} {owner : α → State → Owned}
    (h : ∀ f s, Spares n d s (owner f s).state) (s : State) : Spares n d s (Machine.onRequest tag code exempt body owner s) := by
  refine Spares.trans (t := s.countGood) (count s _) ?_
  show Spares n d s.countGood (takeRequest tag code exempt body owner s.countGood)
  rcases takeRequest_cases tag code exempt body owner s.countGood with ⟨st, e⟩ | ⟨f, -, -, -, -, e⟩ <;> rw [e]
  · exact refuse ..
  · have hopen : Spares n d s.countGood (s.countGood.openEntry tag code) := of_same rfl rfl
    have howner := h f (s.countGood.openEntry tag code)
    cases hown : owner f (s.countGood.openEntry tag code) with
    | reply v st data =>
      rw [hown] at howner
      exact hopen.trans (howner.trans (of_same rfl rfl))
    | deferred v =>
      rw [hown] at howner
      exact hopen.trans howner

theorem onUnknown (tag : Byte) (body : List Byte) (s : State) : Spares n d s (onUnknown tag body s) := by
  cases body with
  | nil => exact (count s _).trans (refuse ..)
  | cons code rest => exact (count s _).trans (refuse ..)

theorem onCheckError (s : State) : Spares n d s (onCheckError s) := (count ..).trans (linkFault ..)

theorem ownReset (v : Unit) (s : State) : Spares n d s (ownReset v s).state :=
  modStartup s fun x => { x with resetPending := true }

theorem dispatch {i : Instr} (hi : ∀ cells, .loadCompletion cells ∈ courseOf i → ¬d) (s : State) : Spares n d s (dispatch i s) := by
  cases i with
  | createSegment => exact onRequest ownCreate s
  | writeSamples => exact onRequest ownWrite s
  | sealSegment => exact onRequest ownSeal s
  | deleteSegment => exact onRequest ownDelete s
  | getSegment => exact onRequest (fun f s => of_state_eq (ownGetSegment_state f s)) s
  | getPool => exact onRequest (fun f s => of_state_eq (ownGetPool_state f s)) s
  | configureChannel => exact onRequest ownConfigure s
  | enqueue => exact onRequest ownEnqueue s
  | start t run => exact onRequest (ownStartIn hi) s
  | stopImmediate => exact onRequest ownStopImmediate s
  | stopAtPassEnd => exact onRequest ownStopAtPassEnd s
  | release => exact onRequest ownRelease s
  | flush => exact onRequest ownFlush s
  | getChannel => exact onRequest (fun f s => of_state_eq (ownGetChannel_state f s)) s
  | setRate => exact onRequest ownSetRate s
  | runRates => exact onRequest ownRunRates s
  | haltRates => exact onRequest ownHaltRates s
  | getRates => exact onRequest (fun f s => of_state_eq (ownGetRates_state f s)) s
  | setInputs => exact onRequest ownSetInputs s
  | defineTrigger => exact onRequest ownDefineTrigger s
  | fire => exact onRequest ownFire s
  | getTrigger => exact onRequest (fun f s => of_state_eq (ownGetTrigger_state f s)) s
  | getInputs => exact onRequest (fun f s => of_state_eq (ownGetInputs_state f s)) s
  | save t => exact onRequest (ownSave t) s
  | load t => exact onRequest (ownLoad t) s
  | erase t => exact onRequest (ownErase t) s
  | setLock t => exact onRequest (ownSetLock t) s
  | freeze => exact onRequest ownFreeze s
  | savePlan t => exact onRequest (ownSavePlan t) s
  | clearPlan t => exact onRequest (ownClearPlan t) s
  | cancel => exact onRequest ownCancel s
  | getSlot => exact onRequest (fun f s => of_state_eq (ownGetSlot_state f s)) s
  | getStore => exact onRequest (fun f s => of_state_eq (ownGetStore_state f s)) s
  | getPlan => exact onRequest (fun f s => of_state_eq (ownGetPlan_state f s)) s
  | reset => exact onRequest ownReset s
  | abortPlan => exact onRequest ownAbortPlan s
  | setNotices => exact onRequest ownSetNotices s
  | getLink => exact onRequest ownGetLink s
  | getPart => exact onRequest (fun f s => of_state_eq (ownGetPart_state f s)) s
  | unknownRequest tag body => exact onUnknown tag body s
  | noticeAcknowledgement v => exact (count s _).trans (acknowledge ..)
  | kindError => exact (count ..).trans (linkFault ..)
  | _ => exact refl s

/-! ### Bytes, faults, breaks and resets -/

theorem dispatchContent (content : List Byte) (s : State) : Spares n d s (dispatchContent content s) := by
  unfold Machine.dispatchContent
  split
  · next i h => exact dispatch (by rw [decodeFrame_course h]; exact nofun) s
  · exact refl s

theorem closeFrame (content : List Byte) (check : Half) (s : State) : Spares n d s (closeFrame content check s) := by
  unfold Machine.closeFrame
  split
  · exact (endFrame s).trans (dispatchContent ..)
  · exact (endFrame s).trans (onCheckError _)

theorem rxByte (b : Byte) (s : State) : Spares n d s (State.rxByte b s) := by
  unfold State.rxByte
  split
  · split
    · exact setReceiver ..
    · exact count ..
  · split
    · exact setReceiver ..
    · exact (endFrame s).trans ((count ..).trans (linkFault ..))
  · split
    · exact setReceiver ..
    · exact setReceiver ..
  · exact setReceiver ..
  · exact closeFrame ..

theorem lineEvent {f : State → State} (h : Spares n d s (f s)) : Spares n d s (s.lineEvent f) := by
  unfold State.lineEvent
  split
  · exact refl s
  · exact event h

theorem takeByte (b : Byte) (s : State) : Spares n d s (s.takeByte b) := lineEvent (rxByte b s)

theorem takeBytes (bs : List Byte) (s : State) : Spares n d s (State.takeBytes bs s) := by
  induction bs generalizing s with
  | nil => exact refl s
  | cons b bs ih => exact (takeByte b s).trans (ih _)

theorem receive {act : State → State} (h : ∀ s, Spares n d s (act s)) (content : List Byte) (check : Half) (s : State) :
    Spares n d s (s.receive content check act) := by
  unfold State.receive
  split
  · exact lineEvent (f := fun s => act s.endFrame) ((endFrame s).trans (h _))
  · exact takeBytes ..

theorem receiveLength (v : Byte) (s : State) : Spares n d s (s.receiveLength v) := by
  unfold State.receiveLength
  split
  · exact takeByte ..
  · exact takeBytes ..

theorem expireGap (s : State) : Spares n d s s.expireGap := by
  unfold State.expireGap
  split
  · exact refl s
  · exact (endFrame s).trans ((count ..).trans (linkFault ..))

theorem endNotice (s : State) : Spares n d s s.endNotice := by
  unfold State.endNotice
  split
  · exact of_same rfl rfl
  · exact refl s

theorem expireTimer (s : State) : Spares n d s s.expireTimer := by
  unfold State.expireTimer
  split
  · exact of_same rfl rfl
  · exact refl s

/-- A reset that keeps the store. -/
theorem of_empty (hs : t.store = s.store) (hj : t.jobs = []) : Spares n d s t := of_jobs hs fun j hm => by rw [hj] at hm; cases hm

theorem takeReset {c : Cause} (hc : c ≠ .powerOn) (s : State) (b : BitVec 2) : Spares n d s (s.takeReset c b) := by
  cases c with
  | powerOn => exact absurd rfl hc
  | pin | soft => exact of_empty rfl rfl

theorem endReply (s : State) : Spares n d s s.endReply := by
  unfold State.endReply
  split
  · next item f _ =>
    have hend : Spares n d s (({ s with table := s.table.afterReply item, link := { s.link with tx := .free } } : State).count
        (fun c => { c with replyFrames := satInc c.replyFrames })) := of_same rfl rfl
    simp only
    split
    · exact hend.trans (takeReset (by simp) ..)
    · exact hend
  · exact refl s

theorem breakLink (s : State) : Spares n d s s.breakLink :=
  of_jobs rfl fun j hj => by
    obtain ⟨k, hk, rfl⟩ := List.mem_map.mp (show j ∈ s.jobs.map Job.orphan from hj)
    exact ⟨k, hk, rfl⟩

theorem takeBreak (s : State) : Spares n d s s.takeBreak := by
  unfold State.takeBreak
  split
  · exact refl s
  · split
    · exact (breakLink s).trans (takeReset (by simp) ..)
    · exact breakLink s

theorem releaseReset (s : State) (b : BitVec 2) : Spares n d s (s.releaseReset b) := by
  unfold State.releaseReset
  split
  · exact of_empty rfl rfl
  · exact of_same rfl rfl

end Spares

/-! ### Every command -/

/-- The samples of a slot stay through every command that changes no cells. -/
def changesCells (c : Instr) : Prop :=
  ∃ cells, c = .blockTransfer cells ∨ c = .loadCompletion cells ∨ .loadCompletion cells ∈ courseOf c

theorem exec_spares {c : Instr} (h : exec c s = .next t) (hp : ∀ v, c ≠ .powerOn v) (hl : c ≠ .setLockCompletion) :
    Spares n (¬changesCells c) s t := by
  have hd : ∀ cells, .loadCompletion cells ∈ courseOf c → ¬¬changesCells c := fun cells hm hn => hn ⟨cells, .inr (.inr hm)⟩
  cases c with
  | start tag run => cases h; exact Spares.receive (Spares.dispatch hd) _ _ s
  | lengthError v => cases h; exact Spares.receiveLength v s
  | checkError content check => cases h; exact Spares.receive (Spares.closeFrame content check) _ _ s
  | gapError => cases h; exact Spares.event (Spares.expireGap s)
  | stopBitError => cases h; exact Spares.lineEvent (Spares.count s _)
  | huntByte v => cases h; exact Spares.takeByte v s
  | syncByte => cases h; exact Spares.takeByte _ s
  | frameByte v => cases h; exact Spares.takeByte v s
  | lineBreak => cases h; exact Spares.event (Spares.takeBreak s)
  | rxdReturnsToMark => cases h; exact Spares.event (f := State.endBreak) (Spares.of_same rfl rfl)
  | replyFrameEnd => cases h; exact Spares.event (Spares.endReply s)
  | noticeFrameEnd => cases h; exact Spares.event (Spares.endNotice s)
  | retransmitTimerExpiry => cases h; exact Spares.event (Spares.expireTimer s)
  | tick m => cases h; exact Spares.event (f := fun s => s.makeTick m) (Spares.makeTick s m)
  | tickDelivery c g => cases h; exact Spares.event (f := fun s => s.deliver c g) (Spares.deliver s c g)
  | sample levels order =>
    cases h; exact Spares.event (f := fun s => s.takeSample levels order) (Spares.takeSample s levels order)
  | blockTransfer cells =>
    cases h
    exact Spares.event (f := fun s => s.transferBlock cells)
      (Spares.transferBlock (fun hn => hn ⟨cells, .inl rfl⟩) s cells)
  | saveCompletion => cases h; exact Spares.event (Spares.completeSave s)
  | loadCompletion cells =>
    cases h
    exact Spares.event (f := fun s => s.completeLoad cells)
      (Spares.completeLoad (fun hn => hn ⟨cells, .inr (.inl rfl)⟩) s cells)
  | eraseCompletion => cases h; exact Spares.event (Spares.completeErase s)
  | setLockCompletion => exact absurd rfl hl
  | savePlanCompletion => cases h; exact Spares.event (Spares.completeSavePlan s)
  | clearPlanCompletion => cases h; exact Spares.event (Spares.completeClearPlan s)
  | scanCompletion => cases h; exact Spares.event (Spares.completeScan s)
  | powerOn v => exact absurd rfl (hp v)
  | powerLoss => cases h; exact Spares.of_empty rfl rfl
  | resetnAsserted => cases h; exact Spares.of_empty rfl rfl
  | pinReset b => cases h; exact Spares.releaseReset s b
  | _ => cases h; exact Spares.receive (Spares.dispatch hd) _ _ s

/-- Steps 3 to 5 of a completion change no slot but by an announcement. -/
theorem finishJob_slot (u : State) (j : Job) (st : Status) (data : List Byte) :
    ((u.finishJob j st data).slot n).freeze = (u.slot n).freeze ∧
    (u.unwritten n → (u.finishJob j st data).slot n = u.slot n) := by
  let v := u.jobLeaves.handReply j.origin j.work.code st data
  have hslot : v.slot n = u.slot n := by
    show (u.jobLeaves.handReply j.origin j.work.code st data).slot n = u.slot n
    match j.origin with
    | .request tag false => rfl
    | .request tag true => rfl
    | .plan => rfl
  have hjobs : v.jobs = u.jobs.eraseP Job.isActive := handReply_jobs ..
  refine ⟨?_, fun h => ?_⟩
  · show (v.select.slot n).freeze = _
    rw [(select_frame v).2.2 n, hslot]
  · show v.select.slot n = _
    rw [Spares.select_slot (fun k hk => h k (List.eraseP_sublist.subset (hjobs ▸ hk))), hslot]

/-- A SET_LOCK's completion changes lock levels alone. -/
theorem completeSetLock_slot (s : State) (n : Fin 32) : (s.completeSetLock.slot n).freeze = (s.slot n).freeze ∧
    (s.unwritten n → ∃ l, s.completeSetLock.slot n = { s.slot n with lock := l }) := by
  have hself : ∃ l, s.slot n = { s.slot n with lock := l } := ⟨_, rfl⟩
  unfold State.completeSetLock
  split
  · next j _ =>
    split
    · next m level _ =>
      have hset : ∃ l, (s.setSlot m { s.slot m with lock := level }).slot n = { s.slot n with lock := l } := by
        by_cases hm : n = m
        · subst hm
          exact ⟨level, by simp⟩
        · exact ⟨_, State.slot_setSlot_other s hm _⟩
      obtain ⟨hf, hs⟩ := finishJob_slot (n := n) (s.setSlot m { s.slot m with lock := level }) j .ok
        (lockData m { s.slot m with lock := level })
      obtain ⟨l, hl⟩ := hset
      exact ⟨hf.trans (by rw [hl]), fun h => ⟨l, (hs h).trans hl⟩⟩
    · exact ⟨rfl, fun _ => hself⟩
  · exact ⟨rfl, fun _ => hself⟩

theorem powerUp_slot (s : State) (b : BitVec 2) (n : Fin 32) : (s.powerUp b).slot n = { s.slot n with freeze := false } := by
  simp [State.powerUp, State.takeReset, Store.afterReset, State.slot]

/-- Settles O49: by what every command but POWER_ON and a SET_LOCK's completion spares; these two stand apart. -/
theorem lockedSlotKeepsContent : Obligations.LockedSlotKeepsContent := by
  intro c s t n h hfit
  by_cases hp : ∃ v, c = .powerOn v
  · obtain ⟨v, rfl⟩ := hp
    cases h
    rw [show (s.powerUp v).slot n = _ from powerUp_slot s v n]
    exact ⟨fun _ => ⟨rfl, rfl, rfl, rfl, rfl, rfl, rfl, fun _ => rfl⟩, fun _ hv => absurd rfl (hv v), fun _ hf => nomatch hf⟩
  by_cases hl : c = .setLockCompletion
  · subst hl
    have ht : t.slot n = (s.event State.completeSetLock).slot n := by cases h; rfl
    have hslot : t.slot n = s.completeSetLock.slot n ∨ t.slot n = s.slot n := by
      rcases event_cases s State.completeSetLock with ⟨-, e⟩ | ⟨-, e⟩ <;> rw [ht, e]
      · exact .inl (by simp [State.slot])
      · exact .inr rfl
    obtain ⟨hf, hs⟩ := completeSetLock_slot s n
    have hfreeze : (t.slot n).freeze = (s.slot n).freeze :=
      hslot.elim (fun e => (congrArg Slot.freeze e).trans hf) (congrArg Slot.freeze)
    refine ⟨fun hn => ?_, fun h _ => hfreeze.trans h, fun h0 h1 => by rw [hfreeze, h0] at h1; cases h1⟩
    obtain ⟨l, e⟩ : ∃ l, t.slot n = { s.slot n with lock := l } := by
      rcases hslot with e | e
      · exact e ▸ hs (barred_of_jobsFit hfit hn).2
      · exact ⟨_, e⟩
    rw [e]
    exact ⟨rfl, rfl, rfl, rfl, rfl, rfl, rfl, fun _ => rfl⟩
  · have hspares : Spares n (¬changesCells c) s t := exec_spares h (fun v e => hp ⟨v, e⟩) hl
    refine ⟨fun hn => ?_, fun hf _ => hspares.stays hf, fun h0 h1 => ?_⟩
    · obtain ⟨-, hs, hd⟩ := hspares.keeps (barred_of_jobsFit hfit hn)
      have hdata (hc : ∀ cells, c ≠ .blockTransfer cells ∧ c ≠ .loadCompletion cells ∧
          ∀ tag run, c = .start tag run → .loadCompletion cells ∉ run.course) : (t.slot n).data = (s.slot n).data := by
        refine hd ?_
        rintro ⟨cells, e | e | hm⟩
        · exact (hc cells).1 e
        · exact (hc cells).2.1 e
        · cases c with
          | start tag run => exact (hc cells).2.2 tag run rfl hm
          | _ => cases hm
      rw [hs] at hdata ⊢
      exact ⟨rfl, rfl, rfl, rfl, rfl, rfl, rfl, hdata⟩
    · rcases hspares.frozen h1 with hf | hlocked
      · rw [h0] at hf
        cases hf
      · exact hlocked

end Sys2Proof.Machine

/-! ## The events between the starts of a START do not see the request's own entry -/

namespace Sys2Proof.Machine

-- The proofs are checked one after another, so that their memory is not asked for at once.
set_option Elab.async false

/-! ### Ticks and samples behind the table -/

section Ticks
variable (s : State) (l : Link) (t : Table)

@[simp] theorem State.withFront_entryDone (c : Fin 4) (e : Entry) :
    (s.withFront l t).entryDone c e = (s.entryDone c e).withFront l t := by cases h : e.notify <;> simp [State.entryDone, h]

@[simp] theorem State.withFront_endAction (c : Fin 4) (a : EndAction) :
    (s.withFront l t).endAction c a = (s.endAction c a).withFront l t := by
  cases a with
  | hold => rfl
  | rest => by_cases h : (s.channel c).state = .playing <;> simp [State.endAction, h]

@[simp] theorem State.withFront_completeHead (c : Fin 4) (e : Entry) (rest : List Entry) :
    (s.withFront l t).completeHead c e rest = (s.completeHead c e rest).withFront l t := by
  cases h : e.stopPending <;> simp [State.completeHead, h]

@[simp] theorem State.withFront_passEnd (c : Fin 4) (e : Entry) (rest : List Entry) :
    (s.withFront l t).passEnd c e rest = (s.passEnd c e rest).withFront l t := by
  cases h : e.completes (nextPasses e.repeats e.passes) <;> simp [State.passEnd, h]

@[simp] theorem State.withFront_advance (c : Fin 4) (n : Nat) :
    (s.withFront l t).advance c n = (s.advance c n).withFront l t := by
  cases hq : (s.channel c).queue with
  | nil => simp [State.advance, hq]
  | cons e rest => by_cases h : e.cursor + 1 = n <;> simp [State.advance, hq, h]

@[simp] theorem State.withFront_markFiring (k : Fin 8) (ctx : TickContext) :
    State.markFiring k ctx (s.withFront l t) = (State.markFiring k ctx s).withFront l t := by
  by_cases h : (s.trigger k).mode = .off <;> simp [State.markFiring, h]

theorem applyMark_behind (c g : Fin 4) (n : Word) (m : Mark) : BehindTheTable (State.applyMark c g n m) := fun s l t => by
  cases h : m.fire <;> simp [State.applyMark, h]

@[simp] theorem State.withFront_emit (d : Delivery) : (s.withFront l t).emit d = (s.emit d).withFront l t := by
  cases hq : (s.channel d.chan).queue with
  | nil => simp [State.emit, hq]
  | cons e rest =>
    cases hx : s.segment? e.segment with
    | none => simp [State.emit, hq, hx]
    | some x =>
      have hpool : (s.withFront l t).emittedWith d = s.emittedWith d := rfl
      simp only [State.emit, State.withFront_channel, hq, State.withFront_segment?, hx, State.withFront_pool, hpool,
        State.withFront_modChannel, forEach_behind (applyMark_behind d.chan d.gen d.tick) _ _ l t, State.withFront_advance]

@[simp] theorem State.withFront_takeTick (d : Delivery) : (s.withFront l t).takeTick d = (s.takeTick d).withFront l t := by
  cases h : (s.channel d.chan).emitsAt d <;> simp [State.takeTick, h]

end Ticks

theorem deliver_behind (c g : Fin 4) : BehindTheTable (fun s => s.deliver c g) := by
  intro s l t
  simp only [State.deliver, State.withFront_deliveries]
  split
  · next d _ => exact State.withFront_takeTick { s with deliveries := s.deliveries.eraseP (Delivery.isTo c g) } l t d
  · rfl

theorem makeTick_behind (m : TickMade) : BehindTheTable (fun s => s.makeTick m) := fun s l t => by
  cases h : (s.generator m.generator).running with
  | false => simp [State.makeTick, h]
  | true =>
    simp only [State.makeTick, State.withFront_generator, h, if_true]
    rfl

theorem examineTrigger_behind (r f v : Byte) (k : Fin 8) : BehindTheTable (State.examineTrigger r f v k) := fun s l t => by
  cases h : (s.trigger k).reaches r f v <;> simp [State.examineTrigger, h]

theorem takeSample_behind (levels : Byte) (order : List (Fin 8)) : BehindTheTable (fun s => s.takeSample levels order) :=
  fun s l t => by
  cases h : s.trig.sampled with
  | true =>
    simp only [State.takeSample, State.withFront_trig, h, if_true]
    exact forEach_behind (examineTrigger_behind _ _ _) _ { s with trig := s.trig.confirmAll levels } l t
  | false =>
    simp only [State.takeSample, State.withFront_trig, h, Bool.false_eq_true, if_false]
    rfl

theorem transferRest_behind (n : Fin 32) (g : Segment) (cells : List (Nat × Sample)) :
    BehindTheTable (fun s => s.transferRest n g cells) := fun _ _ _ => rfl

theorem loadSucceeds_behind (id : Byte) : BehindTheTable (fun s => s.loadSucceeds id) := fun s l t => by
  simp only [State.loadSucceeds, State.withFront_modSegment, State.withFront_reportReady, State.withFront_releaseRef]

/-! ### The state while a START runs -/

/-- The entry of a START. -/
def startEntry (tag : Byte) (x : EntryState) : Pending := ⟨tag, 0x22, x, false⟩

/-- A START of this tag has been taken: its frame is counted and its entry made. -/
def State.under (tag : Byte) (x : EntryState) (s : State) : State :=
  { s with link := s.link.tookFrame, table := { s.table with entries := s.table.entries ++ [startEntry tag x] } }

/-- A READY part at which no entry holds the tag. -/
structure State.clear (tag : Byte) (s : State) : Prop where
  ready : s.startup.phase = .ready
  entries : s.table.entries.any (Pending.holds tag) = false

/-- An operation that leaves the tag clear and does the same while a START of it runs, whatever becomes of the START's entry. -/
def Mirrored (tag : Byte) (f : State → State) (s : State) : Prop :=
  (f s).clear tag ∧ ∀ x, ∃ y, f (s.under tag x) = (f s).under tag y

namespace Mirrored

variable {tag : Byte} {f g : State → State} {s : State}

theorem of_eq (h : f s = s) (hu : ∀ x, f (s.under tag x) = s.under tag x) (hc : s.clear tag) : Mirrored tag f s :=
  ⟨by rw [h]; exact hc, fun x => ⟨x, by rw [h, hu]⟩⟩

theorem congr (h : Mirrored tag f s) (hs : g s = f s) (hu : ∀ x, g (s.under tag x) = f (s.under tag x)) : Mirrored tag g s :=
  ⟨by rw [hs]; exact h.1, fun x => by rw [hs, hu]; exact h.2 x⟩

theorem comp (hf : Mirrored tag f s) (hg : (f s).clear tag → Mirrored tag g (f s)) : Mirrored tag (fun s => g (f s)) s := by
  obtain ⟨hc, hm⟩ := hg hf.1
  refine ⟨hc, fun x => ?_⟩
  obtain ⟨y, hy⟩ := hf.2 x
  obtain ⟨z, hz⟩ := hm y
  exact ⟨z, by simp only [hy, hz]⟩

theorem of_behind (h : BehindTheTable f) (hs : (f s).startup = s.startup) (hc : s.clear tag) : Mirrored tag f s := by
  obtain ⟨hlink, htable⟩ := h.front s
  refine ⟨⟨by rw [hs]; exact hc.ready, by rw [htable]; exact hc.entries⟩, fun x => ⟨x, ?_⟩⟩
  refine (h s s.link.tookFrame { s.table with entries := s.table.entries ++ [startEntry tag x] }).trans ?_
  rw [State.under, hlink, htable]
  rfl

end Mirrored

end Sys2Proof.Machine

/-! ## START (R49) -/

namespace Sys2Proof.Machine

-- The proofs are checked one after another, so that their memory is not asked for at once.
set_option Elab.async false

theorem modifyFirst_append_cases {α : Type} (p : α → Bool) (f : α → α) (xs ys : List α) :
    modifyFirst p f (xs ++ ys) = if xs.any p then modifyFirst p f xs ++ ys else xs ++ modifyFirst p f ys := by
  induction xs with
  | nil => rfl
  | cons x xs ih =>
    cases h : p x with
    | true => simp [modifyFirst, h]
    | false =>
      simp only [List.cons_append, modifyFirst, h, ih, List.any_cons, Bool.false_or, Bool.false_eq_true, if_false]
      split <;> rfl

theorem any_modifyFirst {α : Type} {p q : α → Bool} {f : α → α} (h : ∀ x, q (f x) = q x) (xs : List α) :
    (modifyFirst p f xs).any q = xs.any q := by
  have e := congrArg (fun l => l.any id) (modifyFirst_map q (p := p) h xs)
  simpa [List.any_map] using e

/-! ### The arbiter's choice and the LOAD's completion while a START runs -/

/-- A change of an entry's state, with the START's own entry at the end of the table. -/
theorem modifyFirst_startEntry (tag other : Byte) (x z : EntryState) (es : List Pending) :
    ∃ y, modifyFirst (Pending.holds other) (fun e => { e with state := z }) (es ++ [startEntry tag x]) =
      modifyFirst (Pending.holds other) (fun e => { e with state := z }) es ++ [startEntry tag y] := by
  rw [modifyFirst_append_cases]
  cases hany : es.any (Pending.holds other) with
  | true => exact ⟨x, rfl⟩
  | false =>
    rw [modifyFirst_none _ hany]
    cases hnew : Pending.holds other (startEntry tag x) with
    | true =>
      refine ⟨z, ?_⟩
      simp only [modifyFirst, hnew, if_true, Bool.false_eq_true, if_false]
      rfl
    | false =>
      refine ⟨x, ?_⟩
      simp only [modifyFirst, hnew, Bool.false_eq_true, if_false]

section Entry
variable {tag : Byte} {s : State}

theorem under_beginReply (x : EntryState) (item : LineItem) (rest : List LineItem) :
    ∃ y, (s.under tag x).beginReply item rest = (s.beginReply item rest).under tag y := by
  cases item with
  | refusal => exact ⟨x, rfl⟩
  | reply other code st data =>
    obtain ⟨y, hy⟩ := modifyFirst_startEntry tag other x .sending s.table.entries
    refine ⟨y, ?_⟩
    simp only [State.beginReply, State.under, hy]
    rfl

theorem beginReply_entries (item : LineItem) (rest : List LineItem) :
    (s.beginReply item rest).table.entries.any (Pending.holds tag) = s.table.entries.any (Pending.holds tag) := by
  cases item with
  | refusal => rfl
  | reply other code st data =>
    exact any_modifyFirst (f := fun e : Pending => { e with state := .sending }) (fun _ => rfl) s.table.entries

theorem under_beginNotice (x : EntryState) (r : Notice) : (s.under tag x).beginNotice r = (s.beginNotice r).under tag x := by
  unfold State.beginNotice
  cases r.state <;> rfl

theorem arbitrate_entries (s : State) : s.arbitrate.table.entries.any (Pending.holds tag) = s.table.entries.any (Pending.holds tag) := by
  rcases arbitrate_cases s with ⟨-, e⟩ | ⟨item, rest, -, -, e⟩ | ⟨r, -, -, -, e⟩ | ⟨-, -, -, e⟩ <;> rw [e]
  · exact beginReply_entries item rest
  · unfold State.beginNotice
    split <;> rfl

theorem under_arbitrate (s : State) (x : EntryState) : ∃ y, (s.under tag x).arbitrate = s.arbitrate.under tag y := by
  have htx : (s.under tag x).link.tx = s.link.tx := rfl
  have hline : (s.under tag x).table.line = s.table.line := rfl
  have hnotices : (s.under tag x).notices = s.notices := rfl
  unfold State.arbitrate
  rw [htx, hline, hnotices]
  cases s.link.tx with
  | free =>
    cases s.table.line with
    | cons item rest => exact under_beginReply x item rest
    | nil =>
      cases s.notices.offer with
      | some r => exact ⟨x, under_beginNotice x r⟩
      | none => exact ⟨x, rfl⟩
  | reply | notice => exact ⟨x, rfl⟩

theorem startEntry_not_orphan (tag other code : Byte) (x : EntryState) : Pending.isOrphan other code (startEntry tag x) = false := by
  simp [Pending.isOrphan, startEntry]

end Entry

namespace Mirrored

variable {tag : Byte} {s : State}

theorem arbitrate (hc : s.clear tag) : Mirrored tag State.arbitrate s :=
  ⟨⟨by simpa using hc.ready, (arbitrate_entries s).trans hc.entries⟩, under_arbitrate s⟩

theorem event {f : State → State} (hf : Mirrored tag f s) (hc : s.clear tag) : Mirrored tag (fun s => s.event f) s := by
  have halive (x : EntryState) : (s.under tag x).alive = s.alive := rfl
  cases ha : s.alive with
  | true => exact (comp hf arbitrate).congr (event_alive ha f) fun x => event_alive ((halive x).trans ha) f
  | false => exact of_eq (by simp [State.event, ha]) (fun x => by simp [State.event, halive, ha]) hc

theorem handReply (hc : s.clear tag) (o : JobOrigin) (code : Byte) (st : Status) (data : List Byte) :
    Mirrored tag (fun s => s.handReply o code st data) s := by
  match o with
  | .plan => exact of_eq rfl (fun _ => rfl) hc
  | .request other true =>
    refine ⟨⟨hc.ready, ?_⟩, fun x => ⟨x, ?_⟩⟩
    · exact List.any_eq_false.mpr fun e he => List.any_eq_false.mp hc.entries e (List.eraseP_sublist.subset he)
    · have herase : (s.table.entries ++ [startEntry tag x]).eraseP (Pending.isOrphan other code) =
          s.table.entries.eraseP (Pending.isOrphan other code) ++ [startEntry tag x] := by
        rw [List.eraseP_append]
        split
        · rfl
        · next h =>
          rw [List.eraseP_of_forall_not (l := s.table.entries) fun e he hp => h (List.any_eq_true.mpr ⟨e, he, hp⟩)]
          simp [startEntry_not_orphan]
      simp only [State.handReply, State.under, herase]
  | .request other false =>
    refine ⟨⟨hc.ready, (any_modifyFirst (f := fun e : Pending => { e with state := .queued }) (fun _ => rfl) s.table.entries).trans
      hc.entries⟩, fun x => ?_⟩
    obtain ⟨y, hy⟩ := modifyFirst_startEntry tag other x .queued s.table.entries
    refine ⟨y, ?_⟩
    simp only [State.handReply, State.placeReply, State.under, hy]

theorem handLoad (hc : s.clear tag) (o : JobOrigin) (st : Status) (data : List Byte) :
    Mirrored tag (fun s => s.handLoad o st data) s := by
  cases o with
  | request => exact handReply hc ..
  | plan =>
    have hplan (u : State) (h : u.startup.phase = .ready) : u.planOutcome st = u := by simp [State.planOutcome, h]
    exact of_eq (hplan s hc.ready) (fun x => hplan (s.under tag x) hc.ready) hc

theorem select (hc : s.clear tag) : Mirrored tag State.select s :=
  of_behind (fun s l t => State.withFront_select s l t) (Passes.select s).startup hc

theorem finishLoad (hc : s.clear tag) (j : Job) (st : Status) (data : List Byte) : Mirrored tag (fun s => s.finishLoad j st data) s := by
  have hleaves : Mirrored tag State.jobLeaves s := of_behind (fun _ _ _ => rfl) rfl hc
  exact (hleaves.comp fun h => handLoad h j.origin st data).comp fun h => select h

theorem judgeLoad (hc : s.clear tag) (j : Job) (n : Fin 32) (g : Segment) : Mirrored tag (fun s => s.judgeLoad j n g) s := by
  by_cases hm : s.loadedCheck g = (s.slot n).check
  · have h : Mirrored tag (fun s => s.loadSucceeds g.id) s :=
      of_behind (loadSucceeds_behind g.id) (Passes.loadSucceeds s g.id).startup hc
    exact (h.comp fun h => finishLoad h j .ok _).congr (judgeLoad_match hm) fun x => judgeLoad_match (s := s.under tag x) hm
  · have h : Mirrored tag (fun s => s.failLoading g.id) s :=
      of_behind (fun s l t => State.withFront_failLoading s l t g.id) (Passes.failLoading s g.id).startup hc
    exact (h.comp fun h => finishLoad h j .checkFailed _).congr (judgeLoad_mismatch hm)
      fun x => judgeLoad_mismatch (s := s.under tag x) hm

theorem completeLoad (hc : s.clear tag) (cells : List (Nat × Sample)) : Mirrored tag (fun s => s.completeLoad cells) s := by
  have hactive (x : EntryState) : (s.under tag x).activeJob = s.activeJob := rfl
  have hsegment (x : EntryState) (id : Byte) : (s.under tag x).segment? id = s.segment? id := rfl
  cases hj : s.activeJob with
  | none =>
    exact of_eq (by simp only [State.completeLoad, hj]) (fun x => by simp only [State.completeLoad, hactive, hj]) hc
  | some j =>
    cases hw : j.work with
    | load n id =>
      cases hg : s.segment? id with
      | none =>
        exact of_eq (by simp only [State.completeLoad, hj, hw, hg])
          (fun x => by simp only [State.completeLoad, hactive, hsegment, hj, hw, hg]) hc
      | some g =>
        have h : Mirrored tag (fun s => s.transferRest n g cells) s := of_behind (transferRest_behind n g cells) rfl hc
        exact (h.comp fun h => judgeLoad h j n g).congr (completeLoad_eq hj hw hg cells)
          fun x => completeLoad_eq (s := s.under tag x) hj hw hg cells
    | save | erase | setLock | savePlan | clearPlan =>
      exact of_eq (by simp only [State.completeLoad, hj, hw]) (fun x => by simp only [State.completeLoad, hactive, hj, hw]) hc

theorem startChannel (hc : s.clear tag) (c : Fin 4) : Mirrored tag (State.startChannel c) s :=
  of_behind (startChannel_behind c) (by rw [(Moves.startChannel c s).frame]) hc

theorem betweenStarts (hc : s.clear tag) (p : StartStep) : Mirrored tag (betweenStarts p) s := by
  cases p with
  | channel => exact of_eq rfl (fun _ => rfl) hc
  | tick m => exact event (of_behind (makeTick_behind m) (Passes.makeTick s m).startup hc) hc
  | tickDelivery c g => exact event (of_behind (deliver_behind c g) (Passes.deliver s c g).startup hc) hc
  | sample levels order =>
    exact event (of_behind (takeSample_behind levels order) (Passes.takeSample s levels order).startup hc) hc
  | loadCompletion cells => exact event (completeLoad hc cells) hc

/-- The starts of a START, and what falls between them, do not see its entry. -/
theorem startAll (hc : s.clear tag) (left : List (Fin 4)) : Mirrored tag (fun s => (State.startAll left s).1) s ∧
    ∀ x, (State.startAll left (s.under tag x)).2 = (State.startAll left s).2 := by
  induction left generalizing s with
  | nil => exact ⟨of_eq rfl (fun _ => rfl) hc, fun _ => rfl⟩
  | cons c left ih =>
    have hstart := startChannel hc c
    obtain ⟨hall, hreached⟩ := ih hstart.1
    refine ⟨hstart.comp fun _ => hall, fun x => ?_⟩
    obtain ⟨y, hy⟩ := hstart.2 x
    simp only [State.startAll, hy, hreached]
    rfl

theorem startCourse (hc : s.clear tag) (course : List StartStep) (left : List (Fin 4)) :
    Mirrored tag (fun s => (State.startCourse course left s).1) s ∧
    ∀ x, (State.startCourse course left (s.under tag x)).2 = (State.startCourse course left s).2 := by
  induction course generalizing left s with
  | nil => exact startAll hc left
  | cons p course ih =>
    by_cases hne : left = []
    · subst hne
      have hover (u : State) : State.startCourse (p :: course) [] u = (u, []) := rfl
      exact ⟨of_eq (congrArg Prod.fst (hover s)) (fun x => congrArg Prod.fst (hover (s.under tag x))) hc, fun _ => rfl⟩
    by_cases hp : ∃ c, p = .channel c
    · obtain ⟨c, rfl⟩ := hp
      by_cases hm : c ∈ left
      · have hstart := startChannel hc c
        obtain ⟨hall, hreached⟩ := ih hstart.1 (left.erase c)
        simp only [State.startCourse_start hm]
        refine ⟨hstart.comp fun _ => hall, fun x => ?_⟩
        obtain ⟨y, hy⟩ := hstart.2 x
        rw [hy, hreached]
        rfl
      · simp only [State.startCourse_skip hm]
        exact ih hc left
    · have hp' : ∀ c, p ≠ .channel c := fun c e => hp ⟨c, e⟩
      have hbetween := betweenStarts hc p
      obtain ⟨hall, hreached⟩ := ih hbetween.1 left
      simp only [State.startCourse_between hp' course hne]
      refine ⟨hbetween.comp fun _ => hall, fun x => ?_⟩
      obtain ⟨y, hy⟩ := hbetween.2 x
      rw [hy, hreached]

end Mirrored

end Sys2Proof.Machine

/-! ## START: the request (R49, R174) -/

namespace Sys2Proof.Machine

-- The proofs are checked one after another, so that their memory is not asked for at once.
set_option Elab.async false

section Owner
variable {course : List StartStep} {m : Byte} {s : State}

theorem ownStartIn_range (h : maskOk m = false) : ownStartIn course m s = .refused s .range := by simp [ownStartIn, h]

theorem any_running_iff : (named m).any (fun c => (s.channel c).isRunning) = true ↔ ∃ c ∈ named m, (s.channel c).state ≠ .stopped := by
  simp [List.any_eq_true, Channel.isRunning]

theorem ownStartIn_running (hm : maskOk m = true) (h : ∃ c ∈ named m, (s.channel c).state ≠ .stopped) :
    ownStartIn course m s = .refused s .alreadyRunning := by
  simp [ownStartIn, hm, any_running_iff.mpr h]

theorem ownStartIn_ok (hm : maskOk m = true) (h : ∀ c ∈ named m, (s.channel c).state = .stopped) : ownStartIn course m s =
    .reply (State.startCourse course (named m) s).1 .ok (reachedStates m (State.startCourse course (named m) s).2) := by
  have hrun : (named m).any (fun c => (s.channel c).isRunning) = false :=
    Bool.eq_false_iff.mpr fun hr => have ⟨c, hc, hne⟩ := any_running_iff.mp hr; hne (h c hc)
  simp [ownStartIn, hm, hrun]

end Owner

/-! ### The event of the request -/

section Request
variable {tag : Byte} {s : State}

theorem clear_of_takes (h : s.takes tag = true) : s.clear tag := by
  simp only [State.takes, State.admits, Bool.and_eq_true, Bool.or_eq_true, Bool.not_eq_true', decide_eq_true_eq, Bool.false_eq_true,
    false_or] at h
  obtain ⟨-, ⟨he, -⟩, hp⟩ := h
  exact ⟨hp, he⟩

/-- The reply of a request whose entry stands at the end of the table. -/
theorem placeReply_under (hc : s.clear tag) (x : EntryState) (st : Status) (data : List Byte) :
    ((s.under tag x).placeReply tag 0x22 st data).arbitrate = s.answered tag 0x22 st data := by
  have hmod := modifyFirst_append_new (x := startEntry tag x) (fun e => { e with state := .queued }) hc.entries
    (by simp [Pending.holds, startEntry])
  simp only [State.placeReply, State.under, hmod, State.answered]
  rfl

/-- A part that hunts takes a START's frame whatever its course. -/
theorem exec_start_frame (ht : s.takes tag = true) (run : StartRun) :
    exec (.start tag run) s = .next (s.receiveFrame (.start tag run)) := by
  have hl : s.listening = true := (by simpa [State.takes] using ht : s.listening = true ∧ s.admits tag false = true).1
  refine congrArg Host.Outcome.next ?_
  rw [State.receiveStart, State.receiveFrame, receive_listening hl, receive_listening hl]

theorem exec_start {m : Byte} (ht : s.takes tag = true) (hm : maskOk m = true)
    (h : ∀ c ∈ named m, (s.channel c).state = .stopped) (course : List StartStep) :
    exec (.start tag ⟨.fields m, course⟩) s = .next ((State.startCourse course (named m) s).1.answered tag 0x22 .ok
      (reachedStates m (State.startCourse course (named m) s).2)) := by
  obtain ⟨hl, ha⟩ : s.listening = true ∧ s.admits tag false = true := by simpa [State.takes] using ht
  obtain ⟨⟨hc, hmirror⟩, hreached⟩ := Mirrored.startCourse (clear_of_takes ht) course (named m)
  obtain ⟨y, hy⟩ := hmirror .awaiting
  have hopen : (s.withFront s.link.tookFrame s.table).openEntry tag 0x22 = s.under tag .awaiting := rfl
  have hown := ownStartIn_ok (course := course) (s := s.under tag .awaiting) hm h
  rw [hreached, show (State.startCourse course (named m) (s.under tag .awaiting)).1 = _ from hy] at hown
  rw [exec_start_frame ht, State.receiveFrame, receive_listening hl]
  refine congrArg Host.Outcome.next ?_
  show (onRequest tag 0x22 false (.fields m) (ownStartIn course) s.endFrame).arbitrate = _
  simp only [onRequest, endFrame_countGood, takeRequest, genericCheck_admits ha, hopen, hown, placeOwned]
  exact placeReply_under hc y .ok _

end Request

/-! ### The channels that start -/

/-- Each channel named starts once. -/
theorem startCourse_channels (course : List StartStep) (left : List (Fin 4)) (s : State) :
    ((State.startCourse course left s).2.map (·.1)).Perm left := by
  induction course generalizing left s with
  | nil => rw [State.startCourse_nil, State.startAll_channels]
  | cons p course ih =>
    by_cases hne : left = []
    · subst hne
      rw [State.startCourse_over]
      exact .nil
    by_cases hp : ∃ c, p = .channel c
    · obtain ⟨c, rfl⟩ := hp
      by_cases hm : c ∈ left
      · rw [State.startCourse_start hm]
        exact ((ih _ _).cons c).trans (List.perm_cons_erase hm).symm
      · rw [State.startCourse_skip hm]
        exact ih left s
    · rw [State.startCourse_between (fun c e => hp ⟨c, e⟩) course hne]
      exact ih left _

theorem startChannel_channel (c : Fin 4) (s : State) :
    ((State.startChannel c s).channel c).counter = 0 ∧ ((State.startChannel c s).channel c).output = (s.channel c).output ∧
    ((State.startChannel c s).channel c).state ≠ .stopped := by
  obtain ⟨st, g, q, e, hst, -⟩ := evaluateHead_channel (s.modChannel c fun ch => { ch with counter := 0, emittedAt := [] }) c
  rw [State.channel_modChannel_self] at e
  have hc : (State.startChannel c s).channel c =
      { s.channel c with counter := 0, emittedAt := [], state := st, activeGen := g, queue := q } := e
  rw [hc]
  exact ⟨rfl, rfl, hst⟩

/-- A channel that starts among others stands as its own start leaves it. -/
theorem startChannels_channel {cs : List (Fin 4)} (hn : cs.Nodup) {c : Fin 4} (hc : c ∈ cs) (s : State) :
    ∃ t, t.channel c = s.channel c ∧ (forEach State.startChannel cs s).channel c = (State.startChannel c t).channel c := by
  induction cs generalizing s with
  | nil => cases hc
  | cons x cs ih =>
    obtain ⟨hx, hcs⟩ := List.nodup_cons.mp hn
    by_cases e : c = x
    · subst e
      exact ⟨s, rfl, startChannels_other hx (State.startChannel c s)⟩
    · obtain ⟨t, ht, hall⟩ := ih hcs ((List.mem_cons.mp hc).resolve_left e) (State.startChannel x s)
      exact ⟨t, ht.trans ((Only.startChannel x s).other c e), hall⟩

/-- Settles O26: the request's event, then the course step by step. -/
theorem startRequest : Obligations.StartRequest := by
  refine ⟨fun tag mask course s ht => ?_, fun course left t => ?_⟩
  · intro run
    refine ⟨fun h => ?_, fun h0 h16 => ⟨fun h => ?_, fun h => ?_⟩⟩
    · exact exec_refused_of_takes (exec_start_frame ht _) rfl ht fun l t => ownStartIn_range (course := course) (maskOk_false h)
    · exact exec_refused_of_takes (exec_start_frame ht _) rfl ht fun l t => ownStartIn_running (s := s.withFront l t) (maskOk_true h0 h16) h
    · have hrun := exec_start ht (maskOk_true h0 h16) h
      intro r
      refine ⟨fun _ => ⟨hrun course, startCourse_channels course (named mask) s⟩, fun hempty => ?_⟩
      intro u
      have hu : u = forEach State.startChannel (named mask) s := (forEach_eq_foldl State.startChannel (named mask) s).symm
      have hreached : reachedStates mask (State.startAll (named mask) s).2 =
          (named mask).flatMap (fun c => u8 (u.channel c).state.num) :=
        List.flatMap_congr fun c hc => by rw [startAll_lookup (named_nodup mask) hc, hu]; rfl
      refine ⟨?_, fun c hc => by rw [hu, startChannels_other hc], fun c hc => ?_⟩
      · subst hempty
        refine (hrun []).trans ?_
        rw [State.startCourse_nil, hreached, State.startAll_fst, ← hu]
      · obtain ⟨t, htc, hall⟩ := startChannels_channel (named_nodup mask) hc s
        rw [hu, hall, ← htc]
        exact startChannel_channel c t
  · intro start
    refine ⟨State.startCourse_over course t, fun c => rfl, fun c hc => State.startCourse_start hc course t,
      fun c hc => State.startCourse_skip hc course t, fun p hl hp => State.startCourse_between hp course hl t,
      exec_betweenStarts t⟩

end Sys2Proof.Machine
